-- ==== Sys2Proof/Word.lean ====
section
/-! DEFINITION. The byte, the unit of host packets and of line characters (00_scope.md section 6). -/

namespace Sys2Proof

/-- Eight bits (00_scope.md section 6, "A byte is eight bits"). -/
abbrev Byte := BitVec 8

end Sys2Proof
end

