-- ==== Sys2Proof/Config.lean ====
section
/-! DEFINITION. The choices the manual leaves open, as constants without a value. -/

namespace Sys2Proof

/-- Which of the claims still held is handed over next while a port that held several is torn down.
R37 makes each hand-over a happening of its own and gives no order among them. The free value is
taken at the count `State.picks` and reduced modulo the number of claims still held. FREE VALUE,
log entry 5. -/
opaque Config.handOverPick : Nat → Nat

/-- Which of the expiries and lapses of one tick is taken next. R32 and R163 make each a happening of
its own and give no order among them. The free value is taken at the count `State.picks` and reduced
modulo the number of those still to come. FREE VALUE, log entry 5. -/
opaque Config.tickPick : Nat → Nat

/-- Whether a RENEW to 1 ms of a record in its last millisecond meets the tick that ends that
millisecond. R34 lets no expiry happen at a tick that a RENEW meets and is taken ahead of; R23 and R29
let the first tick after a RENEW count. The free value is taken at the count `State.picks`. FREE VALUE,
log entry 3. -/
opaque Config.renewMeetsTick : Nat → Bool

end Sys2Proof
end

