-- ==== Sys2Proof/Syntax.lean ====
section
/-! DEFINITION. The commands of the LQ4: one constructor of `Instr` for each row of
spec/opcode_table.json, and the types of their operands. -/

namespace Sys2Proof

/-- The four host ports, in port order (00_scope.md section 6). -/
inductive Port where
  | a | b | c | d
deriving DecidableEq, Repr

/-- The three samples of one bit on RXD: one sixteenth of a bit time before its centre, at the
centre, and one sixteenth after (R105). -/
structure BitSamples where
  before : Bool
  centre : Bool
  after : Bool
deriving DecidableEq, Repr

/-- The samples of the eleven bits of a character in the order they come: start bit, data bits 0
to 7 (least significant first), mark bit, stop bit (R104, R105). -/
structure CharSamples where
  start : BitSamples
  d0 : BitSamples
  d1 : BitSamples
  d2 : BitSamples
  d3 : BitSamples
  d4 : BitSamples
  d5 : BitSamples
  d6 : BitSamples
  d7 : BitSamples
  mark : BitSamples
  stop : BitSamples
deriving DecidableEq, Repr

/-- A character as the receiver delivers it (R105). -/
structure Character where
  data : Byte
  mark : Bool
  framing : Bool
  noise : Bool
deriving DecidableEq, Repr

/-- The steps of the LQ4 (spec/opcode_table.json). A host command carries its port and the body
bytes of its packet as received (R153, R168); whether the body suits the command is tested by the
command's owner (R155). -/
inductive Instr where
  /-- ATTACH, R159. -/
  | attach (port : Port) (body : List Byte)
  /-- DETACH, R160. -/
  | detach (port : Port) (body : List Byte)
  /-- PORT_STATUS, R161. -/
  | portStatus (port : Port) (body : List Byte)
  /-- NEXT_EVENT, R145. -/
  | nextEvent (port : Port) (body : List Byte)
  /-- ENROLL, R3. -/
  | enroll (port : Port) (body : List Byte)
  /-- DISMISS, R5. -/
  | dismiss (port : Port) (body : List Byte)
  /-- SET_STATION, R4. -/
  | setStation (port : Port) (body : List Byte)
  /-- SUBSCRIBE, R7. -/
  | subscribe (port : Port) (body : List Byte)
  /-- UNSUBSCRIBE, R8. -/
  | unsubscribe (port : Port) (body : List Byte)
  /-- STATION_STATUS, R19. -/
  | stationStatus (port : Port) (body : List Byte)
  /-- CLAIM, R24. -/
  | claim (port : Port) (body : List Byte)
  /-- RENEW, R29. -/
  | renew (port : Port) (body : List Byte)
  /-- RELEASE, R30. -/
  | release (port : Port) (body : List Byte)
  /-- CLAIM_STATUS, R31. -/
  | claimStatus (port : Port) (body : List Byte)
  /-- SUBMIT, R48. -/
  | submit (port : Port) (body : List Byte)
  /-- CANCEL, R52. -/
  | cancel (port : Port) (body : List Byte)
  /-- LINE_START, R61. -/
  | lineStart (port : Port) (body : List Byte)
  /-- LINE_HALT, R62. -/
  | lineHalt (port : Port) (body : List Byte)
  /-- LINE_CUT, R64. -/
  | lineCut (port : Port) (body : List Byte)
  /-- SET_POLL, R75. -/
  | setPoll (port : Port) (body : List Byte)
  /-- LINE_STATUS, R77. -/
  | lineStatus (port : Port) (body : List Byte)
  /-- SET_LINE, R119. -/
  | setLine (port : Port) (body : List Byte)
  /-- BAD_PACKET, R154: the bytes of the packet that became complete. -/
  | badPacket (port : Port) (bytes : List Byte)
  /-- BAD_COMMAND, R155: a valid packet whose code is no command. -/
  | badCommand (port : Port) (code : Byte) (body : List Byte)
  /-- FRAGMENT, R157: select rises after these whole bytes of an incomplete packet. -/
  | fragment (port : Port) (bytes : List Byte)
  /-- TIMEBASE_TICK, R23. -/
  | timebaseTick
  /-- CLAIM_EXPIRY, R32: the record of this target. -/
  | claimExpiry (target : Nat)
  /-- LAPSE, R162. -/
  | lapse (port : Port)
  /-- DEVICE_RESET, R166: RESET_n falls, or power comes up. -/
  | deviceReset
  /-- LAST_STOP_BIT_END, R107. -/
  | lastStopBitEnd
  /-- TURNAROUND_END, R108. -/
  | turnaroundEnd
  /-- REPLY_WINDOW_END, R109. -/
  | replyWindowEnd
  /-- CHARACTER_IN_LISTENING, R110. -/
  | characterInListening (samples : CharSamples)
  /-- CHARACTER_IN_RECEIVING, R111. -/
  | characterInReceiving (samples : CharSamples)
  /-- UNSOLICITED_CHARACTER, R116. -/
  | unsolicitedCharacter (samples : CharSamples)
  /-- CHARACTER_GAP_LIMIT, R112. -/
  | characterGapLimit
  /-- INTER_FRAME_GAP_END, R115. -/
  | interFrameGapEnd
  /-- ACCEPTED_START_BIT, R112: a falling edge with the samples of its start bit. -/
  | acceptedStartBit (start : BitSamples)
  /-- DEVICE_RESET_ENDS, R166: RESET_n rises. -/
  | deviceResetEnds
  /-- SELECT_FALLS, R152. -/
  | selectFalls (port : Port)
  /-- SELECT_RISES, R157. -/
  | selectRises (port : Port)
deriving DecidableEq, Repr

end Sys2Proof
end

