-- ==== Sys2Proof/Decode.lean ====
section
/-! DEFINITION. What the bytes of a host packet and the samples of a character stand for.
spec/opcode_table.json gives no row any bits, so `decodeTableWord` reads no command from a word;
the packets of R153 to R155 with the codes of R168 are read and written here. -/

namespace Sys2Proof

/-- The command a word spells by the bits of spec/opcode_table.json. No row of the table has bits,
so no word spells a command. -/
def decodeTableWord (_nbits _w : Nat) : Option Instr := none

/-! ### Received characters (R105) -/

/-- The value of a bit: the majority of its three samples (R105). -/
def BitSamples.majority (b : BitSamples) : Bool :=
  (b.before && b.centre) || (b.before && b.after) || (b.centre && b.after)

/-- The samples of the bit disagreed (R105, noise flag). -/
def BitSamples.disagree (b : BitSamples) : Bool :=
  b.before != b.centre || b.centre != b.after

/-- The eleven bits of a character in order (R104). -/
def CharSamples.bits (c : CharSamples) : List BitSamples :=
  [c.start, c.d0, c.d1, c.d2, c.d3, c.d4, c.d5, c.d6, c.d7, c.mark, c.stop]

/-- A byte from its bits, least significant first (R104). -/
def byteOfBits (bits : List Bool) : Byte :=
  bits.foldr (fun b acc => (acc <<< 1) ||| (if b then 1#8 else 0#8)) 0#8

/-- The data byte of a character: its eight data bits by their majorities (R105). -/
def CharSamples.dataByte (c : CharSamples) : Byte :=
  byteOfBits ([c.d0, c.d1, c.d2, c.d3, c.d4, c.d5, c.d6, c.d7].map BitSamples.majority)

/-- The character the receiver delivers from these samples, or none where the start bit's majority
is 1 and the edge was a glitch (R105). -/
def CharSamples.character (c : CharSamples) : Option Character :=
  if c.start.majority then none
  else some
    { data := c.dataByte
      mark := c.mark.majority
      framing := !c.stop.majority
      noise := c.bits.any BitSamples.disagree }

/-- Three equal samples of a bit. -/
def BitSamples.clean (v : Bool) : BitSamples := ⟨v, v, v⟩

/-- The samples of a character with this data byte and mark bit, without noise or framing error. -/
def CharSamples.clean (data : Byte) (mark : Bool) : CharSamples :=
  { start := .clean false
    d0 := .clean (data.getLsbD 0), d1 := .clean (data.getLsbD 1)
    d2 := .clean (data.getLsbD 2), d3 := .clean (data.getLsbD 3)
    d4 := .clean (data.getLsbD 4), d5 := .clean (data.getLsbD 5)
    d6 := .clean (data.getLsbD 6), d7 := .clean (data.getLsbD 7)
    mark := .clean mark, stop := .clean true }

/-! ### Bits on SDI (R152) -/

/-- The whole bytes received from the bits sampled on SDI in one window, each most significant bit
first. The bits of a byte that is not whole are discarded (R152). -/
def sdiBytes : List Bool → List Byte
  | b7 :: b6 :: b5 :: b4 :: b3 :: b2 :: b1 :: b0 :: rest =>
    byteOfBits [b0, b1, b2, b3, b4, b5, b6, b7] :: sdiBytes rest
  | _ => []

/-- The bits of a byte as they are sent on SDI or SDO, most significant first (R152). -/
def serialBits (b : Byte) : List Bool := (List.range 8).map b.getMsbD

/-! ### Host packets (R153 to R155, R167, R168) -/

/-- The 8-bit sum of the bytes of a packet (R154, Table 10-2). -/
def packetSum (bytes : List Byte) : Byte := bytes.foldl (· + ·) 0#8

/-- The check byte that ends a packet with these bytes (R167). -/
def packetCheck (bytes : List Byte) : Byte := 0#8 - packetSum bytes

/-- The longest body of a command packet (R153, Table 10-2). -/
def maxBody : Nat := 40

/-- The packet is complete: at its length byte where that is above 40, and otherwise when L + 3
bytes have arrived (R153). -/
def packetComplete : List Byte → Bool
  | _ :: len :: rest => maxBody < len.toNat || len.toNat + 1 ≤ rest.length
  | _ => false

/-- The bytes are a packet at the moment it becomes complete: none follows the last (R153). -/
def packetWhole : List Byte → Bool
  | _ :: len :: rest =>
    if maxBody < len.toNat then rest.isEmpty else rest.length == len.toNat + 1
  | _ => false

/-- A complete packet is refused BAD_PACKET: its length byte exceeds 40, or its sum is not 0
(R154). -/
def packetBad : List Byte → Bool
  | code :: len :: rest => maxBody < len.toNat || packetSum (code :: len :: rest) != 0#8
  | _ => false

/-- The command of a code, on a port with a body (Table 10-3), or none where the code is not one of
the commands of the part (R155). -/
def commandOfCode (code : Byte) (p : Port) (body : List Byte) : Option Instr :=
  match code.toNat with
  | 0x01 => some (.attach p body)
  | 0x02 => some (.detach p body)
  | 0x03 => some (.portStatus p body)
  | 0x04 => some (.nextEvent p body)
  | 0x10 => some (.enroll p body)
  | 0x11 => some (.dismiss p body)
  | 0x12 => some (.setStation p body)
  | 0x13 => some (.subscribe p body)
  | 0x14 => some (.unsubscribe p body)
  | 0x15 => some (.stationStatus p body)
  | 0x20 => some (.claim p body)
  | 0x21 => some (.renew p body)
  | 0x22 => some (.release p body)
  | 0x23 => some (.claimStatus p body)
  | 0x30 => some (.submit p body)
  | 0x31 => some (.cancel p body)
  | 0x40 => some (.lineStart p body)
  | 0x41 => some (.lineHalt p body)
  | 0x42 => some (.lineCut p body)
  | 0x43 => some (.setPoll p body)
  | 0x44 => some (.lineStatus p body)
  | 0x45 => some (.setLine p body)
  | _ => none

/-- The code is that of a command of the part (R155). -/
def isCommandCode (code : Byte) : Bool := (commandOfCode code .a []).isSome

/-- Port, code and body of a command that a valid packet carries (Table 10-3); none for the steps
that no valid packet carries. -/
def Instr.packetParts : Instr → Option (Port × Byte × List Byte)
  | .attach p b => some (p, 0x01#8, b)
  | .detach p b => some (p, 0x02#8, b)
  | .portStatus p b => some (p, 0x03#8, b)
  | .nextEvent p b => some (p, 0x04#8, b)
  | .enroll p b => some (p, 0x10#8, b)
  | .dismiss p b => some (p, 0x11#8, b)
  | .setStation p b => some (p, 0x12#8, b)
  | .subscribe p b => some (p, 0x13#8, b)
  | .unsubscribe p b => some (p, 0x14#8, b)
  | .stationStatus p b => some (p, 0x15#8, b)
  | .claim p b => some (p, 0x20#8, b)
  | .renew p b => some (p, 0x21#8, b)
  | .release p b => some (p, 0x22#8, b)
  | .claimStatus p b => some (p, 0x23#8, b)
  | .submit p b => some (p, 0x30#8, b)
  | .cancel p b => some (p, 0x31#8, b)
  | .lineStart p b => some (p, 0x40#8, b)
  | .lineHalt p b => some (p, 0x41#8, b)
  | .lineCut p b => some (p, 0x42#8, b)
  | .setPoll p b => some (p, 0x43#8, b)
  | .lineStatus p b => some (p, 0x44#8, b)
  | .setLine p b => some (p, 0x45#8, b)
  | .badCommand p code b => some (p, code, b)
  | .badPacket _ _ | .fragment _ _ | .timebaseTick | .claimExpiry _ | .lapse _ | .deviceReset
  | .lastStopBitEnd | .turnaroundEnd | .replyWindowEnd | .characterInListening _
  | .characterInReceiving _ | .unsolicitedCharacter _ | .characterGapLimit | .interFrameGapEnd
  | .acceptedStartBit _ | .deviceResetEnds | .selectFalls _ | .selectRises _ => none

/-- The command packet of a code and body: code, length, body, check (Table 10-2). -/
def commandPacket (code : Byte) (body : List Byte) : List Byte :=
  let front := code :: BitVec.ofNat 8 body.length :: body
  front ++ [packetCheck front]

/-- The packet a host sends for a command, or none for a step that no valid packet carries. -/
def Instr.toPacket (i : Instr) : Option (List Byte) :=
  i.packetParts.map fun q => commandPacket q.2.1 q.2.2

/-- The step that comes about when the bytes clocked into a port since its window opened have just
become a complete packet, or none while they have not (R153 to R155). -/
def Instr.ofPacket (p : Port) (bytes : List Byte) : Option Instr :=
  if packetWhole bytes then
    if packetBad bytes then some (.badPacket p bytes)
    else match bytes with
      | code :: _ :: rest =>
        some ((commandOfCode code p rest.dropLast).getD (.badCommand p code rest.dropLast))
      | _ => none
  else none

end Sys2Proof
end

