-- ==== Sys2Proof/Machine/State.lean ====
section
/-! DEFINITION. The state of the LQ4 as plain data, and its value right after device reset. -/

namespace Sys2Proof.Machine

/-- What stops the machine. The manual names no happening that stops the part (every refusal of a
command is a response, every line fault a value in a slot), so there is none. -/
inductive Fault where
deriving DecidableEq, Repr

/-- Why a command has no meaning in the model. -/
inductive Refusal where
  /-- Answered by an arm of `exec` for a row that has no meaning yet. No arm does. Safe. -/
  | notModelled (mnemonic : String)
deriving DecidableEq, Repr

/-- One value for each host port, A to D. -/
structure PerPort (α : Type) where
  a : α
  b : α
  c : α
  d : α
deriving DecidableEq, Repr

/-! ### Responses and host ports (chapter 9) -/

/-- The answer of a command (Table 10-4). -/
inductive Status where
  | ok | queued | staged
  | badPacket | badCommand | badArgument | notAttached | alreadyAttached
  | unknownStation | alreadyEnrolled | directoryFull | inUse
  | tableFull | quota | noRoom | duplicateTag | notFound
  | claimed | notHolder | alreadyHeld | alreadyWaiting | claimTableFull
deriving DecidableEq, Repr

/-- A prepared response: its status and its body (R156). -/
structure Response where
  status : Status
  body : List Byte
deriving DecidableEq, Repr

/-- The select line of a port and the phase of its exchange (R152, R153, R156, R166). -/
inductive Window where
  /-- Select is high. -/
  | closed
  /-- Select is low, but it fell before the end of a device reset: the window is not examined
  (R166). -/
  | ignored
  /-- Select is low and the command packet is not complete. -/
  | receiving
  /-- Select is low, the packet is complete and this response is prepared. -/
  | answered (response : Response)
deriving DecidableEq, Repr

inductive SessionState where
  | detached | attached
deriving DecidableEq, Repr

/-- How a port's latest session ended (R158). -/
inductive TeardownCause where
  | none | detach | lapse
deriving DecidableEq, Repr

/-- The port record (Table 9-1). The lapse timer is `none` when it is stopped. -/
structure PortRecord where
  session : SessionState
  number : Nat
  lapseTime : Nat
  timer : Option Nat
  cause : TeardownCause
  fragments : Nat
deriving DecidableEq, Repr

/-! ### Stations (chapter 1) -/

inductive StationState where
  | unknown | online | suspect | offline
deriving DecidableEq, Repr

/-- A subscription record: the port and its gap flag (Table 1-1). -/
structure Subscription where
  port : Port
  gap : Bool
deriving DecidableEq, Repr

/-- A station entry (Table 1-1). -/
structure StationEntry where
  address : Nat
  state : StationState
  miss : Nat
  synchronised : Bool
  sendBit : Bool
  reportBit : Bool
  pollEnabled : Bool
  subscribers : List Subscription
  exchangesOk : Nat
  totalMisses : Nat
  noisyFrames : Nat
  lostReports : Nat
  deferredReports : Nat
deriving DecidableEq, Repr

/-! ### Claims (chapter 2) -/

/-- A waiter entry: the port and the duration it asked for (Table 2-1). -/
structure Waiter where
  port : Port
  duration : Nat
deriving DecidableEq, Repr

/-- A claim record (Table 2-1). `remaining` is 0 only between the tick that brings it to 0 and the
CLAIM_EXPIRY which that calls for (R23, R32). -/
structure ClaimRecord where
  target : Nat
  holder : Port
  remaining : Nat
  waiters : List Waiter
deriving DecidableEq, Repr

/-! ### Requests (chapter 3) -/

inductive RequestKind where
  | send | fetch | probe | broadcast
deriving DecidableEq, Repr

/-- The fault of a failed attempt (Table 3-1; no fault is the absence of one). -/
inductive LineFault where
  | noReply | truncated | framing | check | format | strayOnly
deriving DecidableEq, Repr

/-- How a request ended (Table 3-3). -/
inductive CompletionStatus where
  | ok | refused | noReply | badReply | replyTooLong | stationOffline | cancelled | cut
deriving DecidableEq, Repr

/-- The fields of a slot that is not FREE, but for its owner (Table 3-1). -/
structure Request where
  tag : Nat
  kind : RequestKind
  station : Nat
  urgent : Bool
  retryBudget : Option Nat
  replyLimit : Option Nat
  payload : List Byte
  attempts : Nat
  cancelRequested : Bool
  lastFault : Option LineFault
  nakReason : Option Nat
  replyPayload : Option (List Byte)
deriving DecidableEq, Repr

/-- A request slot (R39). Only a PENDING and an ACTIVE slot have an owner. -/
inductive Slot where
  | free
  | pending (owner : Port) (request : Request)
  | active (owner : Port) (request : Request)
  | orphaned (request : Request)
deriving DecidableEq, Repr

/-! ### Notices and event queues (chapter 8) -/

inductive LineState where
  | stopped | running | draining
deriving DecidableEq, Repr

inductive LineCause where
  | start | halt | cut
deriving DecidableEq, Repr

/-- The new state of a STATION_STATE notice: a state of the entry, or REMOVED (R18). -/
inductive NewState where
  | entry (state : StationState)
  | removed
deriving DecidableEq, Repr

/-- The contents of a COMPLETION notice (R56). -/
structure Completion where
  tag : Nat
  slot : Nat
  kind : RequestKind
  station : Nat
  status : CompletionStatus
  attempts : Nat
  nakReason : Option Nat
  lastFault : Option LineFault
  stateAfter : Option StationState
  replyPayload : Option (List Byte)
deriving DecidableEq, Repr

/-- The contents of a REPORT notice (R130). -/
structure ReportNotice where
  station : Nat
  buffer : Nat
  length : Nat
  noise : Bool
  gap : Bool
deriving DecidableEq, Repr

/-- A notice (Table 8-1). -/
inductive Notice where
  | completion (c : Completion)
  | claimGranted (target duration : Nat)
  | claimExpired (target : Nat)
  | report (r : ReportNotice)
  | stationState (station : Nat) (old : StationState) (new : NewState) (miss : Nat)
  | lineState (new : LineState) (cause : LineCause)
  | sweepDone (visits : Nat)
deriving DecidableEq, Repr

/-- A Port Event Queue (R137) with the ATTN output it drives (R148). -/
structure EventQueue where
  notices : List Notice
  reserved : Nat
  missed : Nat
  attn : Bool
deriving DecidableEq, Repr

/-! ### Report Store (chapter 7) -/

/-- A report buffer in use (Table 7-1); a free buffer holds nothing. -/
structure ReportBuffer where
  station : Nat
  payload : List Byte
  noise : Bool
  refs : Nat
deriving DecidableEq, Repr

/-! ### Line Scheduler (chapter 4) -/

inductive PollMode where
  | off | once | continuous
deriving DecidableEq, Repr

/-- The transaction in progress as the Scheduler sees it (Table 4-1). -/
inductive Busy where
  | none
  | request (slot : Nat)
  | visit (station : Nat)
deriving DecidableEq, Repr

/-- The state of the Line Scheduler (Table 4-1). -/
structure Scheduler where
  line : LineState
  mode : PollMode
  requester : Option Port
  cursor : Nat
  visits : Nat
  credit : Nat
  pointer : Port
  busy : Busy
deriving DecidableEq, Repr

/-! ### Transaction Unit (chapter 5) -/

/-- The frame a transaction exists to send (Table 5-1). -/
inductive MainKind where
  | send | fetch | probe | broadcast | poll
deriving DecidableEq, Repr

/-- Where the attempt stands (R80). -/
inductive Phase where
  | joinProbe | mainFrame | awaitMain | awaitRetry
deriving DecidableEq, Repr

/-- What a transaction serves (Table 5-1). -/
inductive Source where
  | request (slot : Nat)
  | visit
deriving DecidableEq, Repr

/-- The transaction record (Table 5-1). -/
structure Transaction where
  source : Source
  station : Nat
  main : MainKind
  phase : Phase
deriving DecidableEq, Repr

/-! ### Line Engine (chapter 6) -/

/-- The kinds of line frames (Table 10-7). -/
inductive FrameKind where
  | send | fetch | poll | probe | ack | nak | data | nil | report
deriving DecidableEq, Repr

/-- A frame the part sends (R83): its direction is to the station. -/
structure Frame where
  address : Nat
  kind : FrameKind
  sBit : Bool
  payload : List Byte
deriving DecidableEq, Repr

/-- The states of the Line Engine (R106). -/
inductive EnginePhase where
  | idle | sending | turnaround | listening | receiving | gap
deriving DecidableEq, Repr

/-- The line configuration (Table 6-1). -/
structure LineConfig where
  rateCode : Nat
  turnaround : Nat
  replyWindow : Nat
  charGapLimit : Nat
  interFrameGap : Nat
  retryBudget : Nat
  offlineThreshold : Nat
  pollShare : Nat
deriving DecidableEq, Repr

/-- The line counters (R121). -/
structure LineCounters where
  framesSent : Nat
  repliesValid : Nat
  repliesBad : Nat
  strayHeads : Nat
  unsolicited : Nat
  cuts : Nat
deriving DecidableEq, Repr

/-- The state of the Line Engine (R106, R109 to R112, R118, R121). `exchange` is the frame of the
exchange in progress. `receiving` is `none` while the receiver has no character in progress, and
otherwise tells whether the character in progress began while the reply window was open.
`cutAcross` tells that a character stands on RXD that the receiver, being off, has not heard whole: its
start bit came while the receiver was off, or it was being received when a frame was taken.
`interval` is the length in bit times of the interval now running. -/
structure Engine where
  phase : EnginePhase
  de : Bool
  exchange : Option Frame
  windowOpen : Bool
  strays : Bool
  assembly : List Character
  receiving : Option Bool
  cutAcross : Bool
  interval : Nat
  active : LineConfig
  staged : Option LineConfig
  counters : LineCounters
deriving DecidableEq, Repr

/-! ### The part -/

/-- What the row TIMEBASE_TICK, which ends the tick in progress, leaves out of its count: the records
and ports whose share of the tick rows of their own have taken, and those whose time has been set in
the tick, which counts from the next one (R23, log entry 3). A row CLAIM_EXPIRY or LAPSE begins the
tick, and so does a RENEW that meets it (State.renewClaim). Nothing is noted before a tick begins. -/
structure Ticked where
  claims : List Nat
  ports : List Port
deriving DecidableEq, Repr

/-- The state of the LQ4. `picks` and `pending` are the model's own: the count of free choices made,
and the queue of the commands that wait, first in first out. -/
structure State where
  resetLow : Bool
  timebase : Nat
  ticked : Ticked
  records : PerPort PortRecord
  windows : PerPort Window
  queues : PerPort EventQueue
  directory : List StationEntry
  claims : List ClaimRecord
  slots : List Slot
  lists : PerPort (List Nat)
  scheduler : Scheduler
  transaction : Option Transaction
  engine : Engine
  buffers : List (Option ReportBuffer)
  picks : Nat
  pending : List Instr
deriving DecidableEq, Repr

/-! ### Device reset -/

/-- Table 9-1, after device reset. -/
def PortRecord.reset : PortRecord :=
  { session := .detached, number := 0, lapseTime := 0, timer := none, cause := .none
    fragments := 0 }

/-- R137, after device reset. -/
def EventQueue.reset : EventQueue :=
  { notices := [], reserved := 0, missed := 0, attn := false }

/-- Table 4-1, after device reset. -/
def Scheduler.reset : Scheduler :=
  { line := .stopped, mode := .off, requester := none, cursor := 0, visits := 0, credit := 0
    pointer := .d, busy := .none }

/-- The defaults of Table 6-1. -/
def LineConfig.defaults : LineConfig :=
  { rateCode := 4, turnaround := 4, replyWindow := 330, charGapLimit := 22, interFrameGap := 33
    retryBudget := 2, offlineThreshold := 4, pollShare := 4 }

/-- R121, after device reset. -/
def LineCounters.reset : LineCounters :=
  { framesSent := 0, repliesValid := 0, repliesBad := 0, strayHeads := 0, unsolicited := 0
    cuts := 0 }

/-- R106, R118, R121: the engine after device reset. -/
def Engine.reset : Engine :=
  { phase := .idle, de := false, exchange := none, windowOpen := false, strays := false
    assembly := [], receiving := none, cutAcross := false, interval := 0, active := .defaults
    staged := none, counters := .reset }

/-- The machine right after device reset: RESET_n is high again, every select line is high, and
every block is in its reset state (R20, R22, R39, R43, R60, R80, R106, R118, R121, R123, R137,
R158, R166). -/
def State.reset : State :=
  { resetLow := false
    timebase := 0
    ticked := ⟨[], []⟩
    records := ⟨.reset, .reset, .reset, .reset⟩
    windows := ⟨.closed, .closed, .closed, .closed⟩
    queues := ⟨.reset, .reset, .reset, .reset⟩
    directory := []
    claims := []
    slots := List.replicate 32 .free
    lists := ⟨[], [], [], []⟩
    scheduler := .reset
    transaction := none
    engine := .reset
    buffers := List.replicate 16 none
    picks := 0
    pending := [] }

end Sys2Proof.Machine
end

