-- ==== Sys2Proof/Machine/Ops.lean ====
section
/-! DEFINITION. The shared operations over the state: ports, tables, event queues, reservations. -/

namespace Sys2Proof

/-- The ports in port order (00_scope.md section 6). -/
def Port.all : List Port := [.a, .b, .c, .d]

/-- The next port in the rotation A, B, C, D, A (R69). -/
def Port.after : Port → Port
  | .a => .b
  | .b => .c
  | .c => .d
  | .d => .a

/-- The ports from the one after `p` round to `p` itself (R70). -/
def Port.rotation (p : Port) : List Port :=
  [p.after, p.after.after, p.after.after.after, p]

/-- The place of a port in port order, which is also its code (R167). -/
def Port.index : Port → Nat
  | .a => 0
  | .b => 1
  | .c => 2
  | .d => 3

namespace Machine

/-- The value of a port. -/
def PerPort.get {α : Type} (m : PerPort α) : Port → α
  | .a => m.a
  | .b => m.b
  | .c => m.c
  | .d => m.d

/-- `m` with the value of one port replaced. -/
def PerPort.set {α : Type} (m : PerPort α) (p : Port) (x : α) : PerPort α :=
  match p with
  | .a => { m with a := x }
  | .b => { m with b := x }
  | .c => { m with c := x }
  | .d => { m with d := x }

/-- Each port's value changed by `f`. -/
def PerPort.map {α β : Type} (m : PerPort α) (f : α → β) : PerPort β :=
  ⟨f m.a, f m.b, f m.c, f m.d⟩

/-- Each port's value changed by the function for that port. -/
def PerPort.mapPort {α β : Type} (m : PerPort α) (f : Port → α → β) : PerPort β :=
  ⟨f .a m.a, f .b m.b, f .c m.c, f .d m.d⟩

/-! ### Counters (00_scope.md section 6) -/

/-- One more, stopping at the largest value. -/
def satInc (max n : Nat) : Nat := min max (n + 1)

/-- One more, returning to 0 after 65535. -/
def wrapInc (n : Nat) : Nat := (n + 1) % 65536

/-! ### Tables keyed by a number, held in rising order of their keys -/

/-- The entry with key `k`. -/
def tableFind {α : Type} (key : α → Nat) (k : Nat) (t : List α) : Option α :=
  t.find? (fun x => key x == k)

/-- The table with `x` in the place of its key, in place of the entry that had that key. -/
def tablePut {α : Type} (key : α → Nat) (x : α) : List α → List α
  | [] => [x]
  | y :: t =>
    if key x < key y then x :: y :: t
    else if key x = key y then x :: t
    else y :: tablePut key x t

/-- The table without the entry of key `k`. -/
def tableDrop {α : Type} (key : α → Nat) (k : Nat) (t : List α) : List α :=
  t.filter (fun x => key x != k)

/-! ### The state with one field replaced -/

def State.withResetLow (s : State) (x : Bool) : State := { s with resetLow := x }
def State.withTimebase (s : State) (x : Nat) : State := { s with timebase := x }
def State.withTicked (s : State) (x : Ticked) : State := { s with ticked := x }
def State.withRecords (s : State) (x : PerPort PortRecord) : State := { s with records := x }
def State.withWindows (s : State) (x : PerPort Window) : State := { s with windows := x }
def State.withQueues (s : State) (x : PerPort EventQueue) : State := { s with queues := x }
def State.withDirectory (s : State) (x : List StationEntry) : State := { s with directory := x }
def State.withClaims (s : State) (x : List ClaimRecord) : State := { s with claims := x }
def State.withSlots (s : State) (x : List Slot) : State := { s with slots := x }
def State.withLists (s : State) (x : PerPort (List Nat)) : State := { s with lists := x }
def State.withScheduler (s : State) (x : Scheduler) : State := { s with scheduler := x }
def State.withTransaction (s : State) (x : Option Transaction) : State :=
  { s with transaction := x }
def State.withEngine (s : State) (x : Engine) : State := { s with engine := x }
def State.withBuffers (s : State) (x : List (Option ReportBuffer)) : State :=
  { s with buffers := x }
def State.withPicks (s : State) (x : Nat) : State := { s with picks := x }
def State.withPending (s : State) (x : List Instr) : State := { s with pending := x }

/-! ### Ports and their queues -/

/-- The port has a session (R158). -/
def State.isAttached (s : State) (p : Port) : Bool :=
  decide ((s.records.get p).session = .attached)

/-- The most notices and units a queue holds together (R137). -/
def queueRoom : Nat := 16

/-- The queue's sum: notices plus reservation count (R137). -/
def EventQueue.sum (q : EventQueue) : Nat := q.notices.length + q.reserved

/-- A request for `n` units is granted (R140). -/
def EventQueue.grants (q : EventQueue) (n : Nat) : Bool := decide (q.sum + n ≤ queueRoom)

/-- An unreserved notice is admitted (R142). -/
def EventQueue.admits (q : EventQueue) : Bool := decide (q.sum < queueRoom)

/-- A notice placed at the end of the queue; ATTN is asserted (R138, R148). -/
def EventQueue.push (q : EventQueue) (x : Notice) : EventQueue :=
  { q with notices := q.notices ++ [x], attn := true }

/-- An unreserved notice offered: admitted where the sum is below 16, and otherwise refused and
counted (R142, R144). -/
def EventQueue.offer (q : EventQueue) (x : Notice) : EventQueue :=
  if q.admits then q.push x else { q with missed := satInc 255 q.missed }

/-- One unit converted into a reserved notice (R141). -/
def EventQueue.convert (q : EventQueue) (x : Notice) : EventQueue :=
  { q.push x with reserved := q.reserved - 1 }

/-- Units taken (R140). -/
def EventQueue.take (q : EventQueue) (n : Nat) : EventQueue :=
  { q with reserved := q.reserved + n }

/-- Units freed without a notice (R30). -/
def EventQueue.release (q : EventQueue) (n : Nat) : EventQueue :=
  { q with reserved := q.reserved - n }

/-- The queue after NEXT_EVENT: the oldest notice gone, the missed count reported and cleared, ATTN
released with the last notice (R145, R146, R148). -/
def EventQueue.next (q : EventQueue) : EventQueue :=
  { q with notices := q.notices.tail, missed := 0, attn := !q.notices.tail.isEmpty }

/-- A port's queue changed by `f`. -/
def State.onQueue (s : State) (p : Port) (f : EventQueue → EventQueue) : State :=
  s.withQueues (s.queues.set p (f (s.queues.get p)))

/-- A port's record changed by `f`. -/
def State.onRecord (s : State) (p : Port) (f : PortRecord → PortRecord) : State :=
  s.withRecords (s.records.set p (f (s.records.get p)))

/-- An unreserved notice offered to a port. A detached port is offered nothing (R137, R164). -/
def State.offer (s : State) (p : Port) (x : Notice) : State :=
  if s.isAttached p then s.onQueue p (·.offer x) else s

/-- The port is attached and its queue admits an unreserved notice (R137, R142). -/
def State.admits (s : State) (p : Port) : Bool := s.isAttached p && (s.queues.get p).admits

/-- A reserved notice posted to a port by converting one of its units. None is posted to a port that
has been torn down (R141). -/
def State.convert (s : State) (p : Port) (x : Notice) : State :=
  if s.isAttached p then s.onQueue p (·.convert x) else s

/-- One notice offered to several ports in the order given (R143). -/
def State.offerEach (s : State) (ports : List Port) (x : Notice) : State :=
  ports.foldl (fun s p => s.offer p x) s

/-! ### The tick in progress (R23) -/

/-- A tick is in progress: a row of its own has taken a share of it ahead of TIMEBASE_TICK, or a RENEW
has met it. DESIGN CHOICE, log entry 3. -/
def Ticked.begun (k : Ticked) : Bool := !(k.claims.isEmpty && k.ports.isEmpty)

/-- The tick in progress counts this record no more. -/
def State.reachClaim (s : State) (target : Nat) : State :=
  if target ∈ s.ticked.claims then s
  else s.withTicked { s.ticked with claims := target :: s.ticked.claims }

/-- The tick in progress counts this port's lapse timer no more. -/
def State.reachPort (s : State) (p : Port) : State :=
  if p ∈ s.ticked.ports then s else s.withTicked { s.ticked with ports := p :: s.ticked.ports }

/-- The remaining time of a record has been set by a grant, a hand-over or a RENEW: it counts from the
next tick, so a tick in progress leaves it out (R23, R29). -/
def State.claimSet (s : State) (target : Nat) : State :=
  if s.ticked.begun then s.reachClaim target else s

/-- A lapse timer has been set: it counts from the tick after (R162). -/
def State.timerSet (s : State) (p : Port) : State :=
  if s.ticked.begun then s.reachPort p else s

/-! ### Stations and claims -/

/-- The entry of an address (R1). -/
def State.station? (s : State) (a : Nat) : Option StationEntry :=
  tableFind StationEntry.address a s.directory

/-- An entry put in place of the one of its address. -/
def State.putStation (s : State) (e : StationEntry) : State :=
  s.withDirectory (tablePut StationEntry.address e s.directory)

/-- The claim record of a target (R22). -/
def State.claim? (s : State) (t : Nat) : Option ClaimRecord :=
  tableFind ClaimRecord.target t s.claims

/-- A claim record put in place of the one of its target. -/
def State.putClaim (s : State) (c : ClaimRecord) : State :=
  s.withClaims (tablePut ClaimRecord.target c s.claims)

/-- A STATION_STATE notice offered to every port in the entry's subscriber set, in port order
(R18). -/
def State.postStationState (s : State) (e : StationEntry) (old : StationState) (new : NewState) :
    State :=
  s.offerEach (e.subscribers.map Subscription.port) (.stationState e.address old new e.miss)

/-- The number of claims the port holds (R161). -/
def State.claimsHeld (s : State) (p : Port) : Nat :=
  s.claims.countP (fun c => decide (c.holder = p))

/-- The number of wait lists the port is in (R161). -/
def State.claimsWaited (s : State) (p : Port) : Nat :=
  s.claims.countP (fun c => c.waiters.any (fun w => decide (w.port = p)))

/-! ### Slots -/

/-- The request in a slot that is not FREE. -/
def Slot.request? : Slot → Option Request
  | .free => none
  | .pending _ r | .active _ r | .orphaned r => some r

/-- The port that owns the slot (R41): none for a FREE and an ORPHANED slot. -/
def Slot.owner? : Slot → Option Port
  | .pending p _ | .active p _ => some p
  | .free | .orphaned _ => none

/-- The request in an ACTIVE or ORPHANED slot changed by `f` (R51). -/
def Slot.onLine (f : Request → Request) : Slot → Slot
  | .active p r => .active p (f r)
  | .orphaned r => .orphaned (f r)
  | x => x

/-- The slot of an index. -/
def State.slot (s : State) (i : Nat) : Slot := s.slots.getD i .free

/-- The state with one slot replaced. -/
def State.setSlot (s : State) (i : Nat) (x : Slot) : State := s.withSlots (s.slots.set i x)

/-- The number of slots the port owns, PENDING or ACTIVE (R41). -/
def State.slotsOwned (s : State) (p : Port) : Nat :=
  s.slots.countP (fun x => decide (x.owner? = some p))

/-- A port's pending list changed by `f`. -/
def State.onList (s : State) (p : Port) (f : List Nat → List Nat) : State :=
  s.withLists (s.lists.set p (f (s.lists.get p)))

/-! ### Line state -/

/-- The attached ports in port order. -/
def State.attachedPorts (s : State) : List Port := Port.all.filter s.isAttached

/-- The line state changed into RUNNING or STOPPED, with its LINE_STATE notice to every attached
port in port order (R65). -/
def State.changeLine (s : State) (new : LineState) (cause : LineCause) : State :=
  (s.withScheduler { s.scheduler with line := new }).offerEach s.attachedPorts
    (.lineState new cause)

end Machine

end Sys2Proof
end

