-- ==== Sys2Proof/Machine/Flags.lean ====
section
/-! DEFINITION. The one-byte codes of fields and flags in host packets (R167 Table 10-1, R168
Table 10-4, R169). -/

namespace Sys2Proof.Machine

/-- A value carried in one byte (R167). -/
def byteOf (n : Nat) : Byte := BitVec.ofNat 8 n

/-- A 16-bit value in two bytes, most significant first (R167). -/
def wordOf (n : Nat) : List Byte := [byteOf (n / 256), byteOf n]

/-- The 16-bit value of two bytes, most significant first (R167). -/
def ofWord (hi lo : Byte) : Nat := hi.toNat * 256 + lo.toNat

/-- Yes and no, set and clear (R167). -/
def flagByte (b : Bool) : Byte := if b then 0x01#8 else 0x00#8

/-- The flag a byte of a command body carries; any other value is no flag (R167). -/
def ofFlag (x : Byte) : Option Bool :=
  match x.toNat with
  | 0 => some false
  | 1 => some true
  | _ => none

/-- An optional one-byte field, 0xFF where it is absent (R167). -/
def optionalByte (x : Option Byte) : Byte := x.getD 0xFF#8

/-- Ports (R167). -/
def portByte (p : Port) : Byte := byteOf p.index

/-- Request kinds (Table 10-1). -/
def RequestKind.code : RequestKind → Byte
  | .send => 0x01#8
  | .fetch => 0x02#8
  | .probe => 0x03#8
  | .broadcast => 0x04#8

/-- The request kind of a byte (Table 10-1). -/
def RequestKind.ofCode (x : Byte) : Option RequestKind :=
  match x.toNat with
  | 1 => some .send
  | 2 => some .fetch
  | 3 => some .probe
  | 4 => some .broadcast
  | _ => none

/-- Station states (Table 10-1). -/
def StationState.code : StationState → Byte
  | .unknown => 0x00#8
  | .online => 0x01#8
  | .suspect => 0x02#8
  | .offline => 0x03#8

/-- The new state of a STATION_STATE notice (Table 10-1). -/
def NewState.code : NewState → Byte
  | .entry st => st.code
  | .removed => 0x04#8

/-- Last fault, 0x00 for none (Table 10-1). -/
def faultByte : Option LineFault → Byte
  | none => 0x00#8
  | some .noReply => 0x01#8
  | some .truncated => 0x02#8
  | some .framing => 0x03#8
  | some .check => 0x04#8
  | some .format => 0x05#8
  | some .strayOnly => 0x06#8

/-- Line states (Table 10-1). -/
def LineState.code : LineState → Byte
  | .stopped => 0x00#8
  | .running => 0x01#8
  | .draining => 0x02#8

/-- Line-state causes (Table 10-1). -/
def LineCause.code : LineCause → Byte
  | .start => 0x00#8
  | .halt => 0x01#8
  | .cut => 0x02#8

/-- Poll modes (Table 10-1). -/
def PollMode.code : PollMode → Byte
  | .off => 0x00#8
  | .once => 0x01#8
  | .continuous => 0x02#8

/-- The poll mode of a byte (Table 10-1). -/
def PollMode.ofCode (x : Byte) : Option PollMode :=
  match x.toNat with
  | 0 => some .off
  | 1 => some .once
  | 2 => some .continuous
  | _ => none

/-- Session states (Table 10-1). -/
def SessionState.code : SessionState → Byte
  | .detached => 0x00#8
  | .attached => 0x01#8

/-- Teardown causes (Table 10-1). -/
def TeardownCause.code : TeardownCause → Byte
  | .none => 0x00#8
  | .detach => 0x01#8
  | .lapse => 0x02#8

/-- Busy and its value (Table 10-1, R168). -/
def Busy.bytes : Busy → List Byte
  | .none => [0x00#8, 0x00#8]
  | .request i => [0x01#8, byteOf i]
  | .visit a => [0x02#8, byteOf a]

/-- Completion statuses (R168). -/
def CompletionStatus.code : CompletionStatus → Byte
  | .ok => 0x00#8
  | .refused => 0x50#8
  | .noReply => 0x51#8
  | .badReply => 0x52#8
  | .replyTooLong => 0x53#8
  | .stationOffline => 0x54#8
  | .cancelled => 0x55#8
  | .cut => 0x56#8

/-- Status codes (Table 10-4). -/
def Status.code : Status → Byte
  | .ok => 0x00#8
  | .queued => 0x01#8
  | .staged => 0x02#8
  | .badPacket => 0x10#8
  | .badCommand => 0x11#8
  | .badArgument => 0x12#8
  | .notAttached => 0x13#8
  | .alreadyAttached => 0x14#8
  | .unknownStation => 0x20#8
  | .alreadyEnrolled => 0x21#8
  | .directoryFull => 0x22#8
  | .inUse => 0x23#8
  | .tableFull => 0x30#8
  | .quota => 0x31#8
  | .noRoom => 0x32#8
  | .duplicateTag => 0x33#8
  | .notFound => 0x34#8
  | .claimed => 0x40#8
  | .notHolder => 0x41#8
  | .alreadyHeld => 0x42#8
  | .alreadyWaiting => 0x43#8
  | .claimTableFull => 0x44#8

/-- The flags byte of a REPORT: noise in bit 0, gap in bit 1 (R169). -/
def ReportNotice.flags (r : ReportNotice) : Byte :=
  (if r.noise then 0x01#8 else 0x00#8) ||| (if r.gap then 0x02#8 else 0x00#8)

end Sys2Proof.Machine
end

