-- ==== Sys2Proof/Machine/Frames.lean ====
section
/-! DEFINITION. Line frames: their layout (R170), their check character (R171), their bits on TXD
(R104), and the validation of an assembled frame (R113, R114). -/

namespace Sys2Proof

/-- The eleven bits of a character on the line: start bit 0, data bits least significant first, mark
bit, stop bit 1 (R104). -/
def Character.lineBits (c : Character) : List Bool :=
  false :: (List.range 8).map c.data.getLsbD ++ [c.mark, true]

/-- A character is a head: mark bit 1 and no framing error (R110, R111). -/
def Character.isHead (c : Character) : Bool := c.mark && !c.framing

/-- A head matches: direction bit 1 and the exchange's station (R110). -/
def Character.matchesStation (c : Character) (station : Nat) : Bool :=
  c.data.getLsbD 7 && c.data.toNat % 128 == station

namespace Machine

/-! ### CRC-8 (R171) -/

/-- One bit of the CRC-8 with the polynomial x^8 + x^2 + x + 1 (R171). -/
def crcShift (c : Byte) : Byte := if c.msb then (c <<< 1) ^^^ 0x07#8 else c <<< 1

/-- The CRC after one more byte, its most significant bit first (R171). -/
def crcByte (c b : Byte) : Byte :=
  (List.range 8).foldl (fun x _ => crcShift x) (c ^^^ b)

/-- The check character of these data bytes: initial value 0, no final inversion (R171). -/
def crc8 (bytes : List Byte) : Byte := bytes.foldl crcByte 0#8

/-! ### Kinds (Table 10-7) -/

def FrameKind.code : FrameKind → Nat
  | .send => 1
  | .fetch => 2
  | .poll => 3
  | .probe => 4
  | .ack => 8
  | .nak => 9
  | .data => 10
  | .nil => 11
  | .report => 12

/-- The kind of a code; none for any other value (R114, Table 10-7). -/
def FrameKind.ofCode : Nat → Option FrameKind
  | 1 => some .send
  | 2 => some .fetch
  | 3 => some .poll
  | 4 => some .probe
  | 8 => some .ack
  | 9 => some .nak
  | 10 => some .data
  | 11 => some .nil
  | 12 => some .report
  | _ => none

/-- The length is allowed for the kind (R114). -/
def FrameKind.allowsLength (k : FrameKind) (n : Nat) : Bool :=
  match k with
  | .send | .report => decide (1 ≤ n ∧ n ≤ 32)
  | .fetch => decide (n ≤ 8)
  | .data => decide (n ≤ 32)
  | .poll | .probe | .ack | .nak | .nil => n == 0

/-! ### Frames the part sends -/

/-- The control character: kind code, S bit, and the reason bits, which are 0 in every frame the
part sends (R83, Table 10-6). -/
def controlByte (k : FrameKind) (sBit : Bool) (reason : Nat) : Byte :=
  byteOf (k.code + (if sBit then 16 else 0) + reason * 32)

/-- The data bytes of a frame in either direction: head, control, length, payload, check (R170). -/
def frameBytes (head : Byte) (k : FrameKind) (sBit : Bool) (reason : Nat) (payload : List Byte) :
    List Byte :=
  let front := [head, controlByte k sBit reason, byteOf payload.length] ++ payload
  front ++ [crc8 front]

/-- The data bytes of a frame the part sends; the head's direction bit is 0, to the station (R83,
R170). -/
def Frame.dataBytes (f : Frame) : List Byte :=
  frameBytes (byteOf f.address) f.kind f.sBit 0 f.payload

/-- The characters of the data bytes of a frame: the head's mark bit is 1, every other character's is
0 (R104, R170). -/
def frameCharacters (bytes : List Byte) : List Character :=
  bytes.zipIdx.map fun x => { data := x.1, mark := x.2 == 0, framing := false, noise := false }

/-- The characters of a frame the part sends (R104, R170). -/
def Frame.characters (f : Frame) : List Character := frameCharacters f.dataBytes

/-- The bits of a frame on TXD, the characters following one another with no idle time (R104). -/
def Frame.lineBits (f : Frame) : List Bool := f.characters.flatMap Character.lineBits

/-- The level of TXD in the `n`th bit time of SENDING; outside SENDING it is held at 1 (R104). -/
def State.txd (s : State) (n : Nat) : Bool :=
  match s.engine.phase, s.engine.exchange with
  | .sending, some f => f.lineBits.getD n true
  | _, _ => true

/-- The bit rate of a rate code, in bits a second (R118). -/
def LineConfig.bitRate (c : LineConfig) : Nat :=
  [9600, 19200, 38400, 57600, 115200, 250000, 500000, 1000000].getD c.rateCode 0

/-! ### Assembled frames -/

/-- A reply frame that passed validation (R84, R114). -/
structure Reply where
  kind : FrameKind
  sBit : Bool
  reason : Nat
  payload : List Byte
  noise : Bool
deriving DecidableEq, Repr

/-- The result of an exchange (R84). -/
inductive ExchangeResult where
  | sent
  | frame (r : Reply)
  | invalid (cause : LineFault)
  | silent
  | stray
deriving DecidableEq, Repr

/-- The format tests of R114, on a frame without framing error whose check character agrees. -/
def formatCheck (control : Byte) (payload : List Byte) (noise : Bool) : ExchangeResult :=
  match FrameKind.ofCode (control.toNat % 16) with
  | none => .invalid .format
  | some k =>
    if !k.allowsLength payload.length then .invalid .format
    else if k ≠ .nak ∧ control.toNat / 32 ≠ 0 then .invalid .format
    else
      .frame
        { kind := k, sBit := control.getLsbD 4, reason := control.toNat / 32
          payload := payload, noise := noise }

/-- The validation of a complete frame: FRAMING, then CHECK, then FORMAT (R114). The characters are
head, control, length, payload, check. -/
def validate (frame : List Character) : ExchangeResult :=
  let bytes := frame.map Character.data
  if frame.any Character.framing then .invalid .framing
  else if crc8 bytes.dropLast ≠ bytes.getLastD 0#8 then .invalid .check
  else formatCheck (bytes.getD 1 0#8) (bytes.dropLast.drop 3) (frame.any Character.noise)

/-- How an assembly stands after one more character: it goes on, its length character is above 32
(R113), or it is complete (R111). -/
inductive AssemblyStep where
  | more
  | tooLong
  | complete
deriving DecidableEq, Repr

/-- The longest payload of a frame (R113). -/
def maxPayload : Nat := 32

/-- The state of an assembly (R111, R113): the number of payload characters is the data of the
third character, and the check character is the one after the last of them. -/
def assemblyStep (frame : List Character) : AssemblyStep :=
  match frame with
  | _ :: _ :: len :: rest =>
    if maxPayload < len.data.toNat then .tooLong
    else if rest.length = len.data.toNat + 1 then .complete
    else .more
  | _ => .more

end Machine

end Sys2Proof
end

