-- ==== Sys2Proof/Machine/Reports.lean ====
section
/-! DEFINITION. The Report Store: judging and delivering a REPORT, and dropping references (R123 to
R136). -/

namespace Sys2Proof.Machine

/-- The lowest-numbered free buffer (R124). -/
def State.freeBuffer? (s : State) : Option Nat :=
  (List.range s.buffers.length).find? (fun i => (s.buffers.getD i none).isNone)

/-- One buffer replaced. -/
def State.setBuffer (s : State) (i : Nat) (b : Option ReportBuffer) : State :=
  s.withBuffers (s.buffers.set i b)

/-- The payload of a buffer (R132). -/
def State.bufferPayload (s : State) (i : Nat) : List Byte :=
  match s.buffers.getD i none with
  | some b => b.payload
  | none => []

/-- A buffer after one of its references is dropped: free when none is left (R132, R133). -/
def ReportBuffer.drop (b : ReportBuffer) : Option ReportBuffer :=
  if b.refs ≤ 1 then none else some { b with refs := b.refs - 1 }

/-- The reference of a notice dropped, where it is a REPORT (R132, R133). -/
def State.dropReference (s : State) : Notice → State
  | .report r => s.setBuffer r.buffer ((s.buffers.getD r.buffer none).bind ReportBuffer.drop)
  | .completion _ | .claimGranted _ _ | .claimExpired _ | .stationState _ _ _ _
  | .lineState _ _ | .sweepDone _ => s

/-- REPORT notices offered to each subscriber in port order, each with its record's gap flag
(R130). -/
def State.offerReport (s : State) (subs : List Subscription) (r : ReportNotice) : State :=
  subs.foldl (fun s x => s.offer x.port (.report { r with gap := x.gap })) s

/-- The entry after a report is consumed (R17): its report bit toggles, and lost reports rises where
the report reached no port. -/
def StationEntry.consumed (e : StationEntry) (lost : Bool) : StationEntry :=
  { e with
    reportBit := !e.reportBit
    lostReports := if lost then satInc 65535 e.lostReports else e.lostReports }

/-- A report delivered into buffer `i` (R129 to R131): a notice to each subscriber, the gap flag of
each record cleared where its queue admitted the notice and set where it refused it, the buffer
holding as many references as notices were admitted and free where none was. -/
def State.deliverReport (s : State) (e : StationEntry) (i : Nat) (payload : List Byte)
    (noise : Bool) : State :=
  let admitted := e.subscribers.countP (fun x => s.admits x.port)
  let buffer : ReportBuffer :=
    { station := e.address, payload := payload, noise := noise, refs := admitted }
  let subs := e.subscribers.map (fun x => { x with gap := !s.admits x.port })
  let notice : ReportNotice :=
    { station := e.address, buffer := i, length := payload.length, noise := noise, gap := false }
  ((s.offerReport e.subscribers notice).setBuffer i
      (if admitted = 0 then none else some buffer)).putStation
    ({ e with subscribers := subs }.consumed (decide (admitted = 0)))

/-- The decision for a REPORT reply (R125 Table 7-2): repeated, consumed and lost, deferred, or
consumed and delivered. -/
def State.judgeReport (s : State) (a : Nat) (sBit : Bool) (payload : List Byte) (noise : Bool) :
    State :=
  match s.station? a with
  | none => s
  | some e =>
    if sBit ≠ e.reportBit then s
    else if e.subscribers.isEmpty then s.putStation (e.consumed true)
    else
      match s.freeBuffer? with
      | none => s.putStation { e with deferredReports := satInc 65535 e.deferredReports }
      | some i => s.deliverReport e i payload noise

end Sys2Proof.Machine
end

