-- ==== Sys2Proof/Machine/RequestTable.lean ====
section
/-! DEFINITION. The Request Table's shared operations: taking a slot off its list, ending a request
(R45, R56, R57), and the fields written while it is on the line (R51). -/

namespace Sys2Proof.Machine

/-- The COMPLETION notice of a request (R56): the NAK reason only for REFUSED, the reply payload
only for a FETCH that ended OK, the station's state as it stands and absent for a BROADCAST. -/
def State.completionOf (s : State) (i : Nat) (r : Request) (status : CompletionStatus) :
    Completion :=
  { tag := r.tag
    slot := i
    kind := r.kind
    station := r.station
    status := status
    attempts := r.attempts
    nakReason := if status = .refused then r.nakReason else none
    lastFault := r.lastFault
    stateAfter :=
      if r.kind = .broadcast then none else (s.station? r.station).map StationEntry.state
    replyPayload := if status = .ok ∧ r.kind = .fetch then r.replyPayload else none }

/-- A request ended with a status: where its slot has an owner, the slot turns into a COMPLETION
notice by converting the unit reserved for it (R56); an ORPHANED slot ends without one (R57). The
slot becomes FREE. -/
def State.endRequest (s : State) (i : Nat) (status : CompletionStatus) : State :=
  match s.slot i with
  | .free => s
  | .pending p r => (s.convert p (.completion (s.completionOf i r status))).setSlot i .free
  | .active p r => (s.convert p (.completion (s.completionOf i r status))).setSlot i .free
  | .orphaned _ => s.setSlot i .free

/-- A slot taken off its owner's pending list; the entries behind it close up (R45). -/
def State.unlist (s : State) (p : Port) (i : Nat) : State := s.onList p (·.filter (· != i))

/-- The fields of the slot on the line changed by `f` (R51). -/
def State.writeSlot (s : State) (i : Nat) (f : Request → Request) : State :=
  s.setSlot i ((s.slot i).onLine f)

/-- The index of the caller's PENDING or ACTIVE slot that carries a tag (R42). -/
def State.tagged? (s : State) (p : Port) (tag : Nat) : Option Nat :=
  (List.range s.slots.length).find? fun i =>
    decide ((s.slot i).owner? = some p) && (s.slot i).request?.any (fun r => r.tag == tag)

/-- The lowest-indexed FREE slot (R48). -/
def State.freeSlot? (s : State) : Option Nat :=
  (List.range s.slots.length).find? (fun i => decide (s.slot i = .free))

/-- Where an accepted SUBMIT places its slot (R44): a normal request at the end, an urgent one
directly after the last urgent entry. -/
def State.place (s : State) (i : Nat) (urgent : Bool) (list : List Nat) : List Nat :=
  let isUrgent := fun j => (s.slot j).request?.any Request.urgent
  if urgent then list.takeWhile isUrgent ++ i :: list.dropWhile isUrgent else list ++ [i]

end Sys2Proof.Machine
end

