-- ==== Sys2Proof/Machine/Stations.lean ====
section
/-! DEFINITION. Outcome reports to the Station Directory (R11 to R18). -/

namespace Sys2Proof.Machine

/-- An outcome report (R11). -/
inductive StationReport where
  /-- No report: a broadcast (R91). -/
  | none
  | validReply (noise advance : Bool)
  | successfulProbe (noise : Bool)
  | failedAttempt
deriving DecidableEq, Repr

/-- The entry after a valid-reply report (R12, R15). -/
def StationEntry.validReply (e : StationEntry) (noise advance : Bool) : StationEntry :=
  { e with
    miss := 0
    state := .online
    exchangesOk := wrapInc e.exchangesOk
    noisyFrames := if noise then satInc 65535 e.noisyFrames else e.noisyFrames
    sendBit := if advance then !e.sendBit else e.sendBit }

/-- The entry after a successful-probe report (R13). -/
def StationEntry.successfulProbe (e : StationEntry) (noise : Bool) : StationEntry :=
  { e.validReply noise false with synchronised := true, sendBit := false, reportBit := false }

/-- The entry after a failed-attempt report, with the offline threshold of the active configuration
(R14, R16). -/
def StationEntry.failedAttempt (e : StationEntry) (threshold : Nat) : StationEntry :=
  let m := satInc 15 e.miss
  let e := { e with miss := m, totalMisses := satInc 65535 e.totalMisses }
  if threshold ≤ m then { e with state := .offline, synchronised := false }
  else if e.state = .unknown ∨ e.state = .online then { e with state := .suspect }
  else e

/-- The entry of an address changed by `f`, with a STATION_STATE notice to its subscribers where
its state changed (R10, R18). -/
def State.changeStation (s : State) (a : Nat) (f : StationEntry → StationEntry) : State :=
  match s.station? a with
  | none => s
  | some e =>
    if (f e).state = e.state then s.putStation (f e)
    else (s.putStation (f e)).postStationState (f e) e.state (.entry (f e).state)

/-- An outcome report applied at the directory (R11 to R14). -/
def State.applyReport (s : State) (a : Nat) : StationReport → State
  | .none => s
  | .validReply noise advance => s.changeStation a (·.validReply noise advance)
  | .successfulProbe noise => s.changeStation a (·.successfulProbe noise)
  | .failedAttempt => s.changeStation a (·.failedAttempt s.engine.active.offlineThreshold)

end Sys2Proof.Machine
end

