-- ==== Sys2Proof/Machine/Transactions.lean ====
section
/-! DEFINITION. The Transaction Unit: frames, attempts, judgement of exchange results, the end of a
transaction (R80 to R103), and the Line Engine's ends of an exchange that feed it (R84, R107). -/

namespace Sys2Proof.Machine

/-! ### Handing frames to the engine (R82, R83, R107) -/

/-- The engine takes a frame: it enters SENDING and asserts DE, and a character it was receiving is
discarded and not counted, whatever the engine's state when it ends (R104, R107). -/
def Engine.take (e : Engine) (f : Frame) : Engine :=
  { e with
    phase := .sending, de := true, exchange := some f, receiving := none, interval := 0
    cutAcross := e.cutAcross || e.receiving.isSome }

/-- The transaction record in a phase, and its frame handed to the engine. -/
def State.handFrame (s : State) (t : Transaction) (phase : Phase) (f : Frame) : State :=
  (s.withTransaction (some { t with phase := phase })).withEngine (s.engine.take f)

/-- The PROBE frame of a join probe, a PROBE request or a PROBE visit (R83). -/
def probeFrame (a : Nat) : Frame := { address := a, kind := .probe, sBit := false, payload := [] }

/-- The payload of the slot a transaction serves (R83). -/
def State.sourcePayload (s : State) : Source → List Byte
  | .request i => ((s.slot i).request?.map Request.payload).getD []
  | .visit => []

/-- The main frame of a transaction, with the station's bits as they stand when it is built
(R83). -/
def State.mainFrame (s : State) (t : Transaction) : Frame :=
  let payload := s.sourcePayload t.source
  match t.main with
  | .send =>
    { address := t.station, kind := .send
      sBit := (s.station? t.station).any StationEntry.sendBit, payload := payload }
  | .fetch => { address := t.station, kind := .fetch, sBit := false, payload := payload }
  | .probe => probeFrame t.station
  | .broadcast => { address := 0, kind := .send, sBit := false, payload := payload }
  | .poll =>
    { address := t.station, kind := .poll
      sBit := (s.station? t.station).any StationEntry.reportBit, payload := [] }

/-- The attempt opens with a join probe: a SEND, FETCH or POLL to a station that is not synchronised
(R82). -/
def State.needsProbe (s : State) (t : Transaction) : Bool :=
  match t.main with
  | .send | .fetch | .poll => !(s.station? t.station).any StationEntry.synchronised
  | .probe | .broadcast => false

/-- Attempts made incremented as an attempt of a request begins (R51, R82). -/
def State.countAttempt (s : State) : Source → State
  | .request i => s.writeSlot i (fun r => { r with attempts := r.attempts + 1 })
  | .visit => s

/-- An attempt begins (R82): the attempt is counted, and its first exchange is a join probe or the
main frame. -/
def State.beginAttempt (s : State) (t : Transaction) : State :=
  let s := s.countAttempt t.source
  if s.needsProbe t then s.handFrame t .joinProbe (probeFrame t.station)
  else s.handFrame t .mainFrame (s.mainFrame t)

/-! ### The end of a transaction -/

/-- The record emptied and busy cleared (R80, R97, R100). -/
def State.clearTransaction (s : State) : State :=
  (s.withTransaction none).withScheduler { s.scheduler with busy := .none }

/-- The Transaction Unit reports the end of the transaction: busy becomes none, and a DRAINING line
becomes STOPPED with cause HALT (R63, R97, R98). -/
def State.endTransaction (s : State) : State :=
  if s.scheduler.line = .draining then s.clearTransaction.changeLine .stopped .halt
  else s.clearTransaction

/-- A request ended at the Transaction Unit: its status goes to the Request Table, then the end of
the transaction to the Scheduler (R97). -/
def State.finishRequest (s : State) (i : Nat) (status : CompletionStatus) : State :=
  (s.endRequest i status).endTransaction

/-! ### Judging results (R85 to R91) -/

/-- How an attempt came out (Table 5-2). -/
inductive Verdict where
  | success
  | refused (reason : Nat)
  | tooLong
  | failure (fault : LineFault)
deriving DecidableEq, Repr

/-- The judgement of an exchange result (Table 5-2): the outcome, the report to the Station
Directory, the DATA payload a FETCH keeps, and the report for the Report Store (its S bit, payload
and noise flag). -/
structure Judgement where
  verdict : Verdict
  report : StationReport
  reply : Option (List Byte)
  store : Option (Bool × List Byte × Bool)
deriving DecidableEq, Repr

/-- A failed attempt with a fault (R90). -/
def Judgement.failed (f : LineFault) : Judgement := ⟨.failure f, .failedAttempt, none, none⟩

/-- A valid reply that ends the attempt with this outcome. -/
def Judgement.valid (v : Verdict) (noise advance : Bool) : Judgement :=
  ⟨v, .validReply noise advance, none, none⟩

/-- The judgement of a FRAME result (R85 to R89): `sent` is the kind of the frame sent (PROBE for a
join probe), `sBit` the S bit it carried, `limit` the reply limit of a FETCH. -/
def judgeFrame (sent : MainKind) (sBit : Bool) (limit : Nat) (r : Reply) : Judgement :=
  match sent, r.kind with
  | .send, .ack =>
    if r.sBit = sBit then .valid .success r.noise true else .failed .format
  | .send, .nak => .valid (.refused r.reason) r.noise false
  | .fetch, .data =>
    if r.payload.length ≤ limit then
      ⟨.success, .validReply r.noise false, some r.payload, none⟩
    else .valid .tooLong r.noise false
  | .fetch, .nak => .valid (.refused r.reason) r.noise false
  | .probe, .ack => ⟨.success, .successfulProbe r.noise, none, none⟩
  | .poll, .nil => .valid .success r.noise false
  | .poll, .report =>
    ⟨.success, .validReply r.noise false, none, some (r.sBit, r.payload, r.noise)⟩
  | _, _ => .failed .format

/-- The judgement of an exchange result (Table 5-2). SENT ends a broadcast alone (R91). -/
def judge (sent : MainKind) (sBit : Bool) (limit : Nat) : ExchangeResult → Judgement
  | .sent => ⟨.success, .none, none, none⟩
  | .frame r => judgeFrame sent sBit limit r
  | .invalid cause => .failed cause
  | .silent => .failed .noReply
  | .stray => .failed .strayOnly

/-- The completion status of a failure (R95): NO_REPLY for the no-reply class, BAD_REPLY for the
bad-reply class. -/
def LineFault.status : LineFault → CompletionStatus
  | .noReply | .strayOnly => .noReply
  | .truncated | .framing | .check | .format => .badReply

/-- The fields of the slot that a judgement writes (R51). -/
def Judgement.write (j : Judgement) (r : Request) : Request :=
  let r := { r with replyPayload := j.reply.orElse fun _ => r.replyPayload }
  match j.verdict with
  | .failure f => { r with lastFault := some f }
  | .refused reason => { r with nakReason := some reason }
  | .success | .tooLong => r

/-- The kind of the frame whose exchange the record waits for: a join probe is a PROBE (R85). -/
def Transaction.sentKind (t : Transaction) : MainKind :=
  if t.phase = .joinProbe then .probe else t.main

/-- The reply limit of the request a transaction serves (R87). -/
def State.replyLimit (s : State) : Source → Nat
  | .request i => ((s.slot i).request?.bind Request.replyLimit).getD 0
  | .visit => 0

/-- The station is OFFLINE (R95). -/
def State.isOffline (s : State) (a : Nat) : Bool :=
  (s.station? a).any (fun e => decide (e.state = .offline))

/-- A failed attempt is followed by no further one: attempts made is 1 + retry budget (R95). -/
def Request.spent (r : Request) : Bool := decide (1 + r.retryBudget.getD 0 ≤ r.attempts)

/-- The status that ends an ACTIVE request at the end of an attempt, or none where its next attempt
is due (R95). -/
def State.attemptStatus (s : State) (r : Request) : Verdict → Option CompletionStatus
  | .success => some .ok
  | .refused _ => some .refused
  | .tooLong => some .replyTooLong
  | .failure f =>
    if r.cancelRequested then some .cancelled
    else if s.isOffline r.station then some f.status
    else if r.spent then some f.status
    else none

/-- The record in another phase. -/
def State.setPhase (s : State) (t : Transaction) (phase : Phase) : State :=
  s.withTransaction (some { t with phase := phase })

/-- The end of an attempt (R95, R98, R99, R101): a visit and an orphan end their transaction; an
ACTIVE request ends, or waits for its next attempt (R96). -/
def State.endAttempt (s : State) (t : Transaction) (v : Verdict) : State :=
  match t.source with
  | .visit => s.endTransaction
  | .request i =>
    match s.slot i with
    | .active _ r =>
      match s.attemptStatus r v with
      | some status => s.finishRequest i status
      | none => s.setPhase t .awaitRetry
    | .orphaned _ => s.finishRequest i .cancelled
    | .free | .pending _ _ => s.endTransaction

/-- The slot of a request written as a judgement calls for (R51, R92). -/
def State.writeSource (s : State) (j : Judgement) : Source → State
  | .request i => s.writeSlot i j.write
  | .visit => s

/-- A report handed to the Report Store, for a REPORT reply (R89). -/
def State.storeReport (s : State) (a : Nat) : Option (Bool × List Byte × Bool) → State
  | some (sBit, payload, noise) => s.judgeReport a sBit payload noise
  | none => s

/-- An exchange result judged, in the order of R92: the report to the directory, the report to the
store, the slot's fields, then what follows. A join probe that succeeded is followed by the main
frame of its attempt (R93). -/
def State.handResult (s : State) (t : Transaction) (sBit : Bool) (result : ExchangeResult) :
    State :=
  let j := judge t.sentKind sBit (s.replyLimit t.source) result
  let s := ((s.applyReport t.station j.report).storeReport t.station j.store).writeSource j t.source
  if t.phase = .joinProbe ∧ j.verdict = .success then s.setPhase t .awaitMain
  else s.endAttempt t j.verdict

/-! ### The end of an exchange at the engine (R84, R115) -/

/-- The engine enters GAP: the exchange is over and the inter-frame gap begins (R115, R118). A
character in progress goes on and is received in the gap (R116, R117). -/
def Engine.enterGap (e : Engine) : Engine :=
  { e with
    phase := .gap, de := false, exchange := none, windowOpen := false, strays := false
    assembly := [], interval := e.active.interFrameGap }

/-- The exchange ends with a result: the engine enters GAP, and the Transaction Unit judges the
result in the same happening (R84). -/
def State.endExchange (s : State) (result : ExchangeResult) : State :=
  let s' := s.withEngine s.engine.enterGap
  match s.transaction with
  | none => s'
  | some t => s'.handResult t (s.engine.exchange.any Frame.sBit) result

/-- The engine's counters changed by `f` (R121). -/
def State.onCounters (s : State) (f : LineCounters → LineCounters) : State :=
  s.withEngine { s.engine with counters := f s.engine.counters }

/-- One more frame sent (R121). -/
def LineCounters.countSent (k : LineCounters) : LineCounters :=
  { k with framesSent := satInc 65535 k.framesSent }

/-- One more FRAME or INVALID result (R121). -/
def LineCounters.countReply (k : LineCounters) : ExchangeResult → LineCounters
  | .frame _ => { k with repliesValid := satInc 65535 k.repliesValid }
  | .invalid _ => { k with repliesBad := satInc 65535 k.repliesBad }
  | .sent | .silent | .stray => k

/-- One more stray head or abandoned frame (R121). -/
def LineCounters.countStray (k : LineCounters) : LineCounters :=
  { k with strayHeads := satInc 65535 k.strayHeads }

/-- One more unsolicited character (R121). -/
def LineCounters.countUnsolicited (k : LineCounters) : LineCounters :=
  { k with unsolicited := satInc 65535 k.unsolicited }

/-- One more frame cut while it was being sent (R121). -/
def LineCounters.countCut (k : LineCounters) : LineCounters :=
  { k with cuts := satInc 65535 k.cuts }

/-- An exchange ended with FRAME or INVALID, counted (R112 to R114, R121). -/
def State.endReply (s : State) (result : ExchangeResult) : State :=
  (s.onCounters (·.countReply result)).endExchange result

/-! ### The Transaction Unit at the engine's entry into IDLE (R93, R96) -/

/-- The Transaction Unit acts at the end of a gap: the main frame after a join probe, the next
attempt, or the end of a request that was cancelled or orphaned meanwhile. -/
def State.resumeTransaction (s : State) : State :=
  match s.transaction with
  | none => s
  | some t =>
    match t.phase with
    | .joinProbe | .mainFrame => s
    | .awaitMain => s.handFrame t .mainFrame (s.mainFrame t)
    | .awaitRetry =>
      match t.source with
      | .visit => s
      | .request i =>
        match s.slot i with
        | .active _ r =>
          if r.cancelRequested then s.finishRequest i .cancelled else s.beginAttempt t
        | .orphaned _ => s.finishRequest i .cancelled
        | .free | .pending _ _ => s.endTransaction

end Sys2Proof.Machine
end

