-- ==== Sys2Proof/Machine/Selection.lean ====
section
/-! DEFINITION. The Line Scheduler's selection (R66 to R74, R81). -/

namespace Sys2Proof.Machine

/-- The line is free: RUNNING, the engine IDLE, and busy none (R66). -/
def State.lineFree (s : State) : Bool :=
  decide (s.scheduler.line = .running ∧ s.engine.phase = .idle ∧ s.scheduler.busy = .none)

/-- The claim target that governs a request: the line for a BROADCAST, and otherwise its station
(R35). -/
def Request.claimTarget (r : Request) : Nat := if r.kind = .broadcast then 0 else r.station

/-- The claims allow a request's first attempt to begin: its target has no record, or its owner is
the holder (R35, R67). -/
def State.claimAllows (s : State) (p : Port) (r : Request) : Bool :=
  (s.claim? r.claimTarget).all (fun c => decide (c.holder = p))

/-- The slot holds a PENDING request that is eligible (R67). -/
def State.eligible (s : State) (i : Nat) : Bool :=
  match s.slot i with
  | .pending p r => s.claimAllows p r
  | .free | .active _ _ | .orphaned _ => false

/-- A port's candidate: the first eligible entry of its pending list (R68). -/
def State.candidate? (s : State) (p : Port) : Option Nat := (s.lists.get p).find? s.eligible

/-- The candidate is urgent: its class is its own urgent field (R68). -/
def State.isUrgent (s : State) (i : Nat) : Bool := (s.slot i).request?.any Request.urgent

/-- The first port after the rotation pointer with an urgent candidate, and that candidate (R69
step 2). -/
def State.urgentChoice? (s : State) : Option (Port × Nat) :=
  s.scheduler.pointer.rotation.findSome? fun p =>
    (s.candidate? p).bind fun i => if s.isUrgent i then some (p, i) else none

/-- The first port after the rotation pointer with a candidate, and that candidate (R69 step 3). -/
def State.anyChoice? (s : State) : Option (Port × Nat) :=
  s.scheduler.pointer.rotation.findSome? fun p => (s.candidate? p).map (p, ·)

/-- The request a selection chooses by steps 2 and 3 of R69. -/
def State.requestChoice? (s : State) : Option (Port × Nat) :=
  s.urgentChoice?.orElse fun _ => s.anyChoice?

/-! ### The sweep (R73, R74) -/

/-- The poll-enabled station of lowest address above `cursor` (R73). -/
def State.stationAbove? (s : State) (cursor : Nat) : Option Nat :=
  (s.directory.find? (fun e => e.pollEnabled && decide (cursor < e.address))).map
    StationEntry.address

/-- The station the sweep search finds in the present poll mode (R73). -/
def State.sweepFinds? (s : State) : Option Nat :=
  match s.scheduler.mode with
  | .off => none
  | .once => s.stationAbove? s.scheduler.cursor
  | .continuous => (s.stationAbove? s.scheduler.cursor).orElse fun _ => s.stationAbove? 0

/-- The end of a ONCE sweep: the mode becomes OFF, SWEEP_DONE is offered to the requester, and the
requester becomes none (R74). -/
def State.endSweep (s : State) : State :=
  let off := s.withScheduler { s.scheduler with mode := .off, requester := none }
  match s.scheduler.requester with
  | some p => off.offer p (.sweepDone s.scheduler.visits)
  | none => off

/-- The sweep search of a selection: a ONCE sweep that finds no station ends within it (R73,
R74). -/
def State.sweepSearch (s : State) : State :=
  if s.scheduler.mode = .once ∧ s.sweepFinds? = none then s.endSweep else s

/-! ### What a selection hands over -/

/-- The poll visit to a station is chosen: the cursor takes its address, a ONCE sweep counts the
visit, and the transaction begins with the kind its state fixes (R73, R81). -/
def State.beginVisit (s : State) (a credit : Nat) : State :=
  let d := s.scheduler
  let visits := if d.mode = .once then satInc 64 d.visits else d.visits
  let t : Transaction :=
    { source := .visit, station := a, main := if s.isOffline a then .probe else .poll
      phase := .mainFrame }
  (s.withScheduler
      { d with cursor := a, visits := visits, credit := credit, busy := .visit a }).beginAttempt t

/-- The main kind of a request (R81). -/
def RequestKind.main : RequestKind → MainKind
  | .send => .send
  | .fetch => .fetch
  | .probe => .probe
  | .broadcast => .broadcast

/-- A chosen request is ended at selection: a SEND or FETCH whose station is OFFLINE (R50, R72). -/
def State.endsAtSelection (s : State) (r : Request) : Bool :=
  match r.kind with
  | .send | .fetch => s.isOffline r.station
  | .probe | .broadcast => false

/-- The first attempt of a chosen request begins: its slot becomes ACTIVE, an absent retry budget
takes the default of the active configuration, busy names the slot and the poll credit rises (R50,
R71, R72, R81). -/
def State.beginRequest (s : State) (p : Port) (i : Nat) (r : Request) : State :=
  let budget := r.retryBudget.getD s.engine.active.retryBudget
  let d := s.scheduler
  let t : Transaction :=
    { source := .request i, station := r.station, main := r.kind.main, phase := .mainFrame }
  ((s.setSlot i (.active p { r with retryBudget := some budget })).withScheduler
      { d with credit := satInc 8 d.credit, busy := .request i }).beginAttempt t

/-- A chosen slot leaves its list, and the rotation pointer moves to its port (R50, R70). -/
def State.takeChoice (s : State) (p : Port) (i : Nat) : State :=
  (s.unlist p i).withScheduler { s.scheduler with pointer := p }

/-- The choosing of R69 with the station the sweep search found, going on after a request that ends
with STATION_OFFLINE (R72). Each round but the last takes one entry off a pending list, so a fuel
above the number of entries is never used up. -/
def State.choose : Nat → Option Nat → State → State
  | 0, _, s => s
  | fuel + 1, found, s =>
    match found.filter (fun _ => decide (s.engine.active.pollShare ≤ s.scheduler.credit)) with
    | some a => s.beginVisit a 0
    | none =>
      match s.requestChoice? with
      | some (p, i) =>
        match s.slot i with
        | .pending _ r =>
          if s.endsAtSelection r then
            State.choose fuel found ((s.takeChoice p i).endRequest i .stationOffline)
          else (s.takeChoice p i).beginRequest p i r
        | .free | .active _ _ | .orphaned _ => s
      | none =>
        match found with
        | some a => s.beginVisit a s.scheduler.credit
        | none => s

/-- The number of entries in the four pending lists. -/
def State.waiting (s : State) : Nat := (Port.all.map fun p => (s.lists.get p).length).sum

/-- A selection, made where the line is free (R66, R69). -/
def State.select (s : State) : State :=
  if s.lineFree then State.choose (s.waiting + 1) s.sweepFinds? s.sweepSearch else s

end Sys2Proof.Machine
end

