-- ==== Sys2Proof/Machine/Claims.lean ====
section
/-! DEFINITION. The Claim Table's shared operations: the holder's leaving (R33), the teardown of a
port's claims (R37, R38), the line-claim test (R36). -/

namespace Sys2Proof.Machine

/-- The record handed to its first waiter, one of whose two units converts into CLAIM_GRANTED, or
freed where nobody waits. The new holder's time counts from the next tick (R23, R33). -/
def State.passClaim (s : State) (c : ClaimRecord) : State :=
  match c.waiters with
  | [] => s.withClaims (tableDrop ClaimRecord.target c.target s.claims)
  | w :: rest =>
    ((s.putClaim
          { c with holder := w.port, remaining := w.duration, waiters := rest }).claimSet
        c.target).convert w.port (.claimGranted c.target w.duration)

/-- The holder of a target leaves (R33): the record is passed on, and the Line Scheduler, told of
the change, makes a selection if the line is free (R66). -/
def State.holderLeaves (s : State) (target : Nat) : State :=
  match s.claim? target with
  | none => s
  | some c => (s.passClaim c).select

/-- The targets of the claims a port holds. -/
def State.heldTargets (s : State) (p : Port) : List Nat :=
  (s.claims.filter (fun c => decide (c.holder = p))).map ClaimRecord.target

/-- The claims of a torn-down port handed on or freed, each a happening of its own (R37). Which of
several comes next is a free value (log entry 5). -/
def State.leaveClaims : Nat → Port → State → State
  | 0, _, s => s
  | fuel + 1, p, s =>
    match s.heldTargets p with
    | [] => s
    | [t] => s.holderLeaves t
    | t :: u :: rest =>
      let held := t :: u :: rest
      let next := held.getD (Config.handOverPick s.picks % held.length) t
      State.leaveClaims fuel p ((s.withPicks (s.picks + 1)).holderLeaves next)

/-- The expiry of a record (R32): the holder's held unit converts into CLAIM_EXPIRED, and the holder
leaves. -/
def State.expire (s : State) (target : Nat) : State :=
  match s.claim? target with
  | none => s
  | some c => (s.convert c.holder (.claimExpired target)).holderLeaves target

/-- A port removed from every wait list that holds it (R38). -/
def State.leaveWaits (s : State) (p : Port) : State :=
  s.withClaims
    (s.claims.map fun c => { c with waiters := c.waiters.filter (fun w => decide (w.port ≠ p)) })

/-- The line-claim test fails: a record for target 0 exists with a holder other than the caller
(R36). -/
def State.lineClaimBars (s : State) (p : Port) : Bool :=
  (s.claim? 0).any (fun c => decide (c.holder ≠ p))

end Sys2Proof.Machine
end

