-- ==== Sys2Proof/Machine/Operands.lean ====
section
/-! DEFINITION. The bodies of host packets: the arguments a command body carries (R167, R168 Table
10-3) and the bodies of responses (R161, R168, R169). A body that does not give the arguments of
its command answers none, and the owner refuses it BAD_ARGUMENT. -/

namespace Sys2Proof.Machine

/-! ### Arguments -/

/-- A value in a range, both ends included. -/
def inRange (lo hi n : Nat) : Bool := decide (lo ≤ n) && decide (n ≤ hi)

/-- ATTACH: the lapse time, 0 or 50-60000 (R159). -/
def lapseArg : List Byte → Option Nat
  | [h, l] => if ofWord h l = 0 ∨ inRange 50 60000 (ofWord h l) then some (ofWord h l) else none
  | _ => none

/-- A body of no bytes. -/
def noArg : List Byte → Bool
  | [] => true
  | _ => false

/-- A station address, 1-126 (R2). -/
def stationArg : List Byte → Option Nat
  | [x] => if inRange 1 126 x.toNat then some x.toNat else none
  | _ => none

/-- ENROLL: address and poll enabled (R3). -/
def enrollArgs : List Byte → Option (Nat × Bool)
  | [x, v] => if inRange 1 126 x.toNat then (ofFlag v).map (x.toNat, ·) else none
  | _ => none

/-- SET_STATION: the address, and the poll-enabled byte as it stands, which is tested after the
address check (R4). DESIGN CHOICE, log entry 15: R4 tests the arguments before and after
UNKNOWN_STATION, and R155 and R167 do not say at which of the two a body of the wrong length is
refused; it is refused here, at the first. -/
def setStationArgs : List Byte → Option (Nat × Byte)
  | [x, v] => if inRange 1 126 x.toNat then some (x.toNat, v) else none
  | _ => none

/-- A claim target, 0-126 (R22). -/
def targetArg : List Byte → Option Nat
  | [t] => if inRange 0 126 t.toNat then some t.toNat else none
  | _ => none

/-- RENEW: target and duration (R29). -/
def renewArgs : List Byte → Option (Nat × Nat)
  | [t, h, l] =>
    if inRange 0 126 t.toNat && inRange 1 60000 (ofWord h l) then some (t.toNat, ofWord h l)
    else none
  | _ => none

/-- CLAIM: target, duration and wait flag (R24). -/
def claimArgs : List Byte → Option (Nat × Nat × Bool)
  | [t, h, l, w] =>
    if inRange 0 126 t.toNat && inRange 1 60000 (ofWord h l) then
      (ofFlag w).map (t.toNat, ofWord h l, ·)
    else none
  | _ => none

/-- The payload length suits the kind (R46). -/
def RequestKind.allowsLength (k : RequestKind) (n : Nat) : Bool :=
  match k with
  | .send | .broadcast => inRange 1 32 n
  | .fetch => inRange 0 8 n
  | .probe => n == 0

/-- The station suits the kind: 0 for BROADCAST, 1-126 for the other kinds (R46). -/
def RequestKind.allowsStation (k : RequestKind) (a : Nat) : Bool :=
  match k with
  | .broadcast => a == 0
  | .send | .fetch | .probe => inRange 1 126 a

/-- The retry budget of its byte: absent for 0xFF, and otherwise 0-7 (R46, R168). The outer none is
a byte out of range. -/
def retryArg (x : Byte) : Option (Option Nat) :=
  if x = 0xFF#8 then some none
  else if inRange 0 7 x.toNat then some (some x.toNat)
  else none

/-- The reply limit of its byte: examined for FETCH alone, and recorded as absent for the other
kinds (R46). The outer none is a byte out of range. -/
def replyLimitArg (k : RequestKind) (x : Byte) : Option (Option Nat) :=
  match k with
  | .fetch => if inRange 0 32 x.toNat then some (some x.toNat) else none
  | .send | .probe | .broadcast => some none

/-- SUBMIT: the request its body asks for, with the fields set as Table 3-1 gives at SUBMIT (R46,
R168). -/
def submitArgs : List Byte → Option Request
  | tag :: kind :: station :: urgent :: retry :: limit :: payload =>
    match RequestKind.ofCode kind, ofFlag urgent, retryArg retry with
    | some k, some u, some budget =>
      match replyLimitArg k limit with
      | some lim =>
        if k.allowsLength payload.length && k.allowsStation station.toNat then
          some
            { tag := tag.toNat, kind := k, station := station.toNat, urgent := u
              retryBudget := budget, replyLimit := lim, payload := payload, attempts := 0
              cancelRequested := false, lastFault := none, nakReason := none
              replyPayload := none }
        else none
      | none => none
    | _, _, _ => none
  | _ => none

/-- CANCEL: the tag (R52). -/
def tagArg : List Byte → Option Nat
  | [t] => some t.toNat
  | _ => none

/-- SET_POLL: the mode (R75). -/
def modeArg : List Byte → Option PollMode
  | [m] => PollMode.ofCode m
  | _ => none

/-- Every field of the configuration is in its range (Table 6-1). -/
def LineConfig.inRanges (c : LineConfig) : Bool :=
  inRange 0 7 c.rateCode && inRange 1 63 c.turnaround && inRange 11 4095 c.replyWindow &&
    inRange 11 255 c.charGapLimit && inRange 11 255 c.interFrameGap &&
    inRange 0 7 c.retryBudget && inRange 2 15 c.offlineThreshold && inRange 1 8 c.pollShare

/-- SET_LINE: the configuration block (R168), every field in its range (R119). -/
def configArg : List Byte → Option LineConfig
  | [rate, turn, wh, wl, limit, gap, retry, threshold, share] =>
    let c : LineConfig :=
      { rateCode := rate.toNat, turnaround := turn.toNat, replyWindow := ofWord wh wl
        charGapLimit := limit.toNat, interFrameGap := gap.toNat, retryBudget := retry.toNat
        offlineThreshold := threshold.toNat, pollShare := share.toNat }
    if c.inRanges then some c else none
  | _ => none

/-! ### Response bodies -/

/-- The configuration block, nine bytes (R168). -/
def LineConfig.bytes (c : LineConfig) : List Byte :=
  [byteOf c.rateCode, byteOf c.turnaround] ++ wordOf c.replyWindow ++
    [byteOf c.charGapLimit, byteOf c.interFrameGap, byteOf c.retryBudget,
      byteOf c.offlineThreshold, byteOf c.pollShare]

/-- The line counters in the order of a LINE_STATUS response (Table 10-3). -/
def LineCounters.bytes (k : LineCounters) : List Byte :=
  wordOf k.framesSent ++ wordOf k.repliesValid ++ wordOf k.repliesBad ++ wordOf k.strayHeads ++
    wordOf k.unsolicited ++ wordOf k.cuts

/-- The staged flag and the nine staged bytes, all 0x00 when no set is staged (R168). -/
def stagedBytes : Option LineConfig → List Byte
  | some c => 0x01#8 :: c.bytes
  | none => List.replicate 10 0x00#8

/-- The PORT_STATUS response (R161). -/
def State.portStatusBody (s : State) (p : Port) : List Byte :=
  let r := s.records.get p
  let q := s.queues.get p
  [r.session.code, byteOf r.number] ++ wordOf r.lapseTime ++ [r.cause.code] ++
    wordOf r.fragments ++
    [byteOf q.notices.length, byteOf q.reserved, byteOf (s.slotsOwned p),
      byteOf (s.claimsHeld p), byteOf (s.claimsWaited p), byteOf q.missed]

/-- The STATION_STATUS response (R19, Table 10-3). -/
def StationEntry.statusBody (e : StationEntry) : List Byte :=
  [byteOf e.address, e.state.code, byteOf e.miss, flagByte e.synchronised, flagByte e.sendBit,
    flagByte e.reportBit, flagByte e.pollEnabled, byteOf e.subscribers.length] ++
    e.subscribers.flatMap (fun r => [portByte r.port, flagByte r.gap]) ++
    wordOf e.exchangesOk ++ wordOf e.totalMisses ++ wordOf e.noisyFrames ++
    wordOf e.lostReports ++ wordOf e.deferredReports

/-- The CLAIM_STATUS response (R31, Table 10-3): holder none, time 0 and no waiters where the target
has no record. -/
def claimStatusBody : Option ClaimRecord → List Byte
  | some c =>
    [portByte c.holder] ++ wordOf c.remaining ++ [byteOf c.waiters.length] ++
      c.waiters.map (fun w => portByte w.port)
  | none => [0xFF#8] ++ wordOf 0 ++ [0x00#8]

/-- The LINE_STATUS response (R77, Table 10-3). -/
def State.lineStatusBody (s : State) : List Byte :=
  let d := s.scheduler
  [d.line.code, d.mode.code, optionalByte (d.requester.map portByte), byteOf d.cursor,
    byteOf d.visits, byteOf d.credit, portByte d.pointer] ++ d.busy.bytes ++
    s.engine.counters.bytes ++ s.engine.active.bytes ++ stagedBytes s.engine.staged

/-- The kind code of a notice (Table 10-5). -/
def Notice.kindCode : Notice → Byte
  | .completion _ => 0x01#8
  | .claimGranted _ _ => 0x02#8
  | .claimExpired _ => 0x03#8
  | .report _ => 0x04#8
  | .stationState _ _ _ _ => 0x05#8
  | .lineState _ _ => 0x06#8
  | .sweepDone _ => 0x07#8

/-- The reply payload of a COMPLETION: its length byte, 0xFF where it is absent, and its bytes
(R169). -/
def replyPayloadBytes : Option (List Byte) → List Byte
  | none => [0xFF#8]
  | some bytes => byteOf bytes.length :: bytes

/-- The contents of a notice as NEXT_EVENT returns them, with the payload read from its buffer for a
REPORT (Table 10-5). -/
def Notice.contents (payload : List Byte) : Notice → List Byte
  | .completion c =>
    [byteOf c.tag, byteOf c.slot, c.kind.code, byteOf c.station, c.status.code,
      byteOf c.attempts, optionalByte (c.nakReason.map byteOf), faultByte c.lastFault,
      optionalByte (c.stateAfter.map StationState.code)] ++ replyPayloadBytes c.replyPayload
  | .claimGranted t d => byteOf t :: wordOf d
  | .claimExpired t => [byteOf t]
  | .report r => [byteOf r.station, byteOf r.buffer, byteOf r.length, r.flags] ++ payload
  | .stationState a old new miss => [byteOf a, old.code, new.code, byteOf miss]
  | .lineState new cause => [new.code, cause.code]
  | .sweepDone visits => [byteOf visits]

/-! ### The bytes on SDO (R156) -/

/-- The response packet: start byte 0xA7, status, length, body, check (Table 10-2). -/
def Response.packet (r : Response) : List Byte :=
  let front := [0xA7#8, r.status.code, byteOf r.body.length] ++ r.body
  front ++ [packetCheck front]

/-- The number of wait bytes before a response: 1 to 8, so one at least and no more than eight
(R156). -/
abbrev waitBytes (waits : Fin 8) : Nat := waits.val + 1

/-- The byte on SDO at the `n`th byte clocked after the packet became complete: wait bytes 0xEE, then
the response packet, then 0x00 (R156). Which of the eight numbers of wait bytes a response has is a
parameter of the view (log entry 6). -/
def Response.sdoByte (r : Response) (waits : Fin 8) (n : Nat) : Byte :=
  if n < waitBytes waits then 0xEE#8 else r.packet.getD (n - waitBytes waits) 0x00#8

/-- What SDO carries at the `n`th byte clocked in the present phase of the exchange: none is high
impedance (R152, R153, R156, R166). In the receiving phase every byte is a wait byte. -/
def Window.sdo (w : Window) (waits : Fin 8) (n : Nat) : Option Byte :=
  match w with
  | .closed | .ignored => none
  | .receiving => some 0xEE#8
  | .answered r => some (r.sdoByte waits n)

/-- The level of SDO at the `n`th bit clocked in the present phase: each byte most significant bit
first (R152). -/
def Window.sdoBit (w : Window) (waits : Fin 8) (n : Nat) : Option Bool :=
  (w.sdo waits (n / 8)).map (fun b => b.getMsbD (n % 8))

end Sys2Proof.Machine
end

