-- ==== Sys2Proof/Machine/Sessions.lean ====
section
/-! DEFINITION. What the Host Port Interface does for every command: taking a complete packet
(R152 to R157, R162), and the teardown of a port (R164). -/

namespace Sys2Proof.Machine

/-- A response without a body. -/
def reply (st : Status) : Response := ⟨st, []⟩

/-- A response with status OK and a body. -/
def okWith (body : List Byte) : Response := ⟨.ok, body⟩

/-- The phase of a port's exchange changed. -/
def State.setWindow (s : State) (p : Port) (w : Window) : State :=
  s.withWindows (s.windows.set p w)

/-- The record after a valid packet: the lapse timer of an attached port restarts at a lapse time
above 0 (R162). -/
def PortRecord.restart (r : PortRecord) : PortRecord :=
  if r.session = .attached ∧ 0 < r.lapseTime then { r with timer := some r.lapseTime } else r

/-- A valid packet has completed: the lapse timer that runs restarts and counts from the tick after
(R162). -/
def State.hear (s : State) (p : Port) : State :=
  let t := s.onRecord p PortRecord.restart
  if (s.records.get p).session = .attached ∧ 0 < (s.records.get p).lapseTime then t.timerSet p else t

/-- A command's effect with the response it prepares. -/
abbrev Effect := State → State × Response

/-- A valid packet becomes complete on a port (R153 to R156, R162). It is taken only in a window that
is receiving: outside a window, in one that is not examined and after a packet is complete, the
bytes clocked have no effect. The lapse timer restarts, the command has its effect in this
happening, and its response is prepared. -/
def State.takePacket (s : State) (p : Port) (effect : Effect) : State :=
  match s.windows.get p with
  | .receiving =>
    let out := effect (s.hear p)
    out.1.setWindow p (.answered out.2)
  | .closed | .ignored | .answered _ => s

/-- A command that needs a session: NOT_ATTACHED on a detached port (R155). -/
def attachedOnly (p : Port) (effect : Effect) : Effect := fun s =>
  if s.isAttached p then effect s else (s, reply .notAttached)

/-- A line-control command: NOT_ATTACHED on a detached port, then CLAIMED where another port holds
the line claim, before its arguments are tested (R36, R155). -/
def lineControl (p : Port) (effect : Effect) : Effect :=
  attachedOnly p fun s => if s.lineClaimBars p then (s, reply .claimed) else effect s

/-! ### Teardown (R164) -/

/-- A slot at the teardown of a port (R58). -/
def Slot.tearDown (p : Port) (x : Slot) : Slot :=
  match x with
  | .pending q _ => if q = p then .free else x
  | .active q r => if q = p then .orphaned { r with cancelRequested := false } else x
  | .free | .orphaned _ => x

/-- Step 1: the port record (R158, R164). -/
def State.endSession (s : State) (p : Port) (cause : TeardownCause) : State :=
  s.onRecord p (fun r => { r with session := .detached, timer := none, cause := cause })

/-- Step 2: the Request Table (R58). -/
def State.dropRequests (s : State) (p : Port) : State :=
  (s.withSlots (s.slots.map (Slot.tearDown p))).onList p (fun _ => [])

/-- Step 4: the Station Directory (R21). -/
def State.dropSubscriptions (s : State) (p : Port) : State :=
  s.withDirectory
    (s.directory.map fun e =>
      { e with subscribers := e.subscribers.filter (fun x => decide (x.port ≠ p)) })

/-- Step 5: the Port Event Queue (R149). -/
def State.flushQueue (s : State) (p : Port) : State :=
  ((s.queues.get p).notices.foldl State.dropReference s).onQueue p (fun _ => .reset)

/-- Step 6: the Line Scheduler (R78). -/
def State.dropRequester (s : State) (p : Port) : State :=
  if s.scheduler.requester = some p then
    s.withScheduler { s.scheduler with requester := none }
  else s

/-- The teardown of a port (R164): each block's part in the order laid down. -/
def State.tearDown (s : State) (p : Port) (cause : TeardownCause) : State :=
  let s := (s.endSession p cause).dropRequests p
  let s := (State.leaveClaims (s.heldTargets p).length p s).leaveWaits p
  ((s.dropSubscriptions p).flushQueue p).dropRequester p

end Sys2Proof.Machine
end

