-- ==== Sys2Proof/Machine/ClaimCommands.lean ====
section
/-! DEFINITION. CLAIM, RENEW, RELEASE, CLAIM_STATUS and the expiry of a claim (chapter 2). -/

namespace Sys2Proof.Machine

/-- The most records the Claim Table holds (R22). -/
def claimCapacity : Nat := 16

/-- The most entries of a wait list (R22). -/
def waitCapacity : Nat := 3

/-- A claim on a target without a record (R25). -/
def grantClaim (p : Port) (target duration : Nat) : Effect := fun s =>
  if claimCapacity ≤ s.claims.length then (s, reply .claimTableFull)
  else if !(s.queues.get p).grants 1 then (s, reply .noRoom)
  else
    (((s.putClaim
          { target := target, holder := p, remaining := duration, waiters := [] }).claimSet
        target).onQueue p (·.take 1),
      reply .ok)

/-- A claim on a target that another port holds (R26). -/
def waitForClaim (p : Port) (c : ClaimRecord) (duration : Nat) (wait : Bool) : Effect := fun s =>
  if !wait then (s, reply .claimed)
  else if waitCapacity ≤ c.waiters.length then (s, reply .claimed)
  else if !(s.queues.get p).grants 2 then (s, reply .noRoom)
  else
    ((s.putClaim { c with waiters := c.waiters ++ [⟨p, duration⟩] }).onQueue p (·.take 2),
      ⟨.queued, [byteOf (c.waiters.length + 1)]⟩)

/-- CLAIM (R24 to R26). -/
def claimEffect (p : Port) (body : List Byte) : Effect := fun s =>
  match claimArgs body with
  | none => (s, reply .badArgument)
  | some (target, duration, wait) =>
    if target ≠ 0 ∧ s.station? target = none then (s, reply .unknownStation)
    else
      match s.claim? target with
      | none => grantClaim p target duration s
      | some c =>
        if c.holder = p then (s, reply .alreadyHeld)
        else if c.waiters.any (fun w => decide (w.port = p)) then (s, reply .alreadyWaiting)
        else waitForClaim p c duration wait s

def execClaim (p : Port) (body : List Byte) (s : State) : Host.Outcome State Fault Refusal :=
  .next (s.takePacket p (attachedOnly p (claimEffect p body)))

/-- The record of a target, where the port is its holder (R29, R30). -/
def State.heldBy? (s : State) (p : Port) (target : Nat) : Option ClaimRecord :=
  (s.claim? target).filter (fun c => decide (c.holder = p))

/-- A claim renewed (R29): its remaining time becomes the duration and counts from the next tick. A tick
in progress therefore leaves it out. Before the tick has begun R34 and R23 differ on one RENEW, to 1 ms
in the last millisecond of the record: met by the RENEW, the coming tick brings no expiry, and counted
from it, the time ends there; which it is is a free value. DESIGN CHOICE, log entry 3: a RENEW that meets
the tick begins it, so the tick leaves out what is set after that RENEW too. -/
def State.renewClaim (s : State) (c : ClaimRecord) (duration : Nat) : State :=
  let t := s.putClaim { c with remaining := duration }
  if s.ticked.begun then t.reachClaim c.target
  else if c.remaining ≤ 1 ∧ duration ≤ 1 then
    let u := t.withPicks (s.picks + 1)
    if Config.renewMeetsTick s.picks then u.reachClaim c.target else u
  else t

/-- RENEW (R29, R34). -/
def renewEffect (p : Port) (body : List Byte) : Effect := fun s =>
  match renewArgs body with
  | none => (s, reply .badArgument)
  | some (target, duration) =>
    match s.heldBy? p target with
    | none => (s, reply .notHolder)
    | some c => (s.renewClaim c duration, reply .ok)

def execRenew (p : Port) (body : List Byte) (s : State) : Host.Outcome State Fault Refusal :=
  .next (s.takePacket p (attachedOnly p (renewEffect p body)))

/-- RELEASE (R30, R33). -/
def releaseEffect (p : Port) (body : List Byte) : Effect := fun s =>
  match targetArg body with
  | none => (s, reply .badArgument)
  | some target =>
    match s.heldBy? p target with
    | none => (s, reply .notHolder)
    | some _ => ((s.onQueue p (·.release 1)).holderLeaves target, reply .ok)

def execRelease (p : Port) (body : List Byte) (s : State) : Host.Outcome State Fault Refusal :=
  .next (s.takePacket p (attachedOnly p (releaseEffect p body)))

/-- CLAIM_STATUS (R31). -/
def claimStatusEffect (body : List Byte) : Effect := fun s =>
  match targetArg body with
  | none => (s, reply .badArgument)
  | some target => (s, okWith (claimStatusBody (s.claim? target)))

def execClaimStatus (p : Port) (body : List Byte) (s : State) :
    Host.Outcome State Fault Refusal :=
  .next (s.takePacket p (attachedOnly p (claimStatusEffect body)))

/-- CLAIM_EXPIRY (R23, R32): the tick reaches this record ahead of the others. Its last millisecond
is counted down and it expires in this happening, and the row TIMEBASE_TICK that ends the tick leaves
the target out. A target with no record in its last millisecond, or one that the tick in progress has
reached already, has no expiry (log entries 3 and 7). -/
def execClaimExpiry (target : Nat) (s : State) : Host.Outcome State Fault Refusal :=
  match s.claim? target with
  | none => .next s
  | some c =>
    if c.remaining ≤ 1 ∧ target ∉ s.ticked.claims then
      .next ((s.reachClaim target).expire target)
    else .next s

end Sys2Proof.Machine
end

