-- ==== Sys2Proof/Machine/DirectoryCommands.lean ====
section
/-! DEFINITION. ENROLL, DISMISS, SET_STATION, SUBSCRIBE, UNSUBSCRIBE and STATION_STATUS (chapter
1). -/

namespace Sys2Proof.Machine

/-- The most entries the directory holds (R1). -/
def directoryCapacity : Nat := 64

/-- The entry an accepted ENROLL creates (Table 1-1). -/
def StationEntry.enrolled (a : Nat) (poll : Bool) : StationEntry :=
  { address := a, state := .unknown, miss := 0, synchronised := false, sendBit := false
    reportBit := false, pollEnabled := poll, subscribers := [], exchangesOk := 0
    totalMisses := 0, noisyFrames := 0, lostReports := 0, deferredReports := 0 }

/-- A selection where a station became poll-enabled (R66). -/
def State.selectIf (s : State) (b : Bool) : State := if b then s.select else s

/-- ENROLL (R3, R66). -/
def enrollEffect (body : List Byte) : Effect := fun s =>
  match enrollArgs body with
  | none => (s, reply .badArgument)
  | some (a, poll) =>
    if (s.station? a).isSome then (s, reply .alreadyEnrolled)
    else if directoryCapacity ≤ s.directory.length then (s, reply .directoryFull)
    else ((s.putStation (.enrolled a poll)).selectIf poll, reply .ok)

def execEnroll (p : Port) (body : List Byte) (s : State) : Host.Outcome State Fault Refusal :=
  .next (s.takePacket p (attachedOnly p (enrollEffect body)))

/-- A command that names an existing station: its address check comes first (R2). -/
def onStation (body : List Byte) (effect : StationEntry → Effect) : Effect := fun s =>
  match stationArg body with
  | none => (s, reply .badArgument)
  | some a =>
    match s.station? a with
    | none => (s, reply .unknownStation)
    | some e => effect e s

/-- A slot keeps its station in use: it is not FREE and has the station as its target (R5). -/
def Slot.targets (x : Slot) (a : Nat) : Bool :=
  x.request?.any fun r => r.kind != .broadcast && r.station == a

/-- The station is in use: a slot, a claim record or the transaction names it (R5, R103). -/
def State.inUse (s : State) (a : Nat) : Bool :=
  s.slots.any (·.targets a) || (s.claim? a).isSome ||
    s.transaction.any (fun t => t.station == a)

/-- DISMISS (R5, R6). -/
def dismissEffect (body : List Byte) : Effect :=
  onStation body fun e s =>
    if s.inUse e.address then (s, reply .inUse)
    else
      let told := s.postStationState e e.state .removed
      (told.withDirectory (tableDrop StationEntry.address e.address told.directory), reply .ok)

def execDismiss (p : Port) (body : List Byte) (s : State) : Host.Outcome State Fault Refusal :=
  .next (s.takePacket p (attachedOnly p (dismissEffect body)))

/-- SET_STATION (R4, R66): the address check, then the poll-enabled value. -/
def setStationEffect (body : List Byte) : Effect := fun s =>
  match setStationArgs body with
  | none => (s, reply .badArgument)
  | some (a, v) =>
    match s.station? a with
    | none => (s, reply .unknownStation)
    | some e =>
      match ofFlag v with
      | none => (s, reply .badArgument)
      | some poll => ((s.putStation { e with pollEnabled := poll }).selectIf poll, reply .ok)

def execSetStation (p : Port) (body : List Byte) (s : State) :
    Host.Outcome State Fault Refusal :=
  .next (s.takePacket p (attachedOnly p (setStationEffect body)))

/-- A subscriber set with a record for the port, its gap flag clear, in the port-order place; a
record that stands is unchanged (R7). -/
def addSubscription (p : Port) (subs : List Subscription) : List Subscription :=
  if subs.any (fun x => decide (x.port = p)) then subs
  else
    subs.takeWhile (fun x => decide (x.port.index < p.index)) ++ ⟨p, false⟩ ::
      subs.dropWhile (fun x => decide (x.port.index < p.index))

/-- SUBSCRIBE (R7). -/
def subscribeEffect (p : Port) (body : List Byte) : Effect :=
  onStation body fun e s =>
    (s.putStation { e with subscribers := addSubscription p e.subscribers }, reply .ok)

def execSubscribe (p : Port) (body : List Byte) (s : State) : Host.Outcome State Fault Refusal :=
  .next (s.takePacket p (attachedOnly p (subscribeEffect p body)))

/-- UNSUBSCRIBE (R8). -/
def unsubscribeEffect (p : Port) (body : List Byte) : Effect :=
  onStation body fun e s =>
    (s.putStation
        { e with subscribers := e.subscribers.filter (fun x => decide (x.port ≠ p)) },
      reply .ok)

def execUnsubscribe (p : Port) (body : List Byte) (s : State) :
    Host.Outcome State Fault Refusal :=
  .next (s.takePacket p (attachedOnly p (unsubscribeEffect p body)))

/-- STATION_STATUS (R19). -/
def stationStatusEffect (body : List Byte) : Effect :=
  onStation body fun e s => (s, okWith e.statusBody)

def execStationStatus (p : Port) (body : List Byte) (s : State) :
    Host.Outcome State Fault Refusal :=
  .next (s.takePacket p (attachedOnly p (stationStatusEffect body)))

end Sys2Proof.Machine
end

