-- ==== Sys2Proof/Machine/EngineEvents.lean ====
section
/-! DEFINITION. The happenings of the Line Engine (chapter 6). A happening named in a state in which
it cannot come about changes nothing (log entry 7). -/

namespace Sys2Proof.Machine

/-- The engine enters TURNAROUND: DE is deasserted and the turnaround gap begins (R107, R108). -/
def Engine.enterTurnaround (e : Engine) : Engine :=
  { e with phase := .turnaround, de := false, interval := e.active.turnaround }

/-- LAST_STOP_BIT_END (R107): the frame is counted; a broadcast ends with SENT, a frame to a station
goes on to the turnaround. -/
def execLastStopBitEnd (s : State) : Host.Outcome State Fault Refusal :=
  match s.engine.phase, s.engine.exchange with
  | .sending, some f =>
    let s := s.onCounters (·.countSent)
    if f.address = 0 then .next (s.endExchange .sent)
    else .next (s.withEngine s.engine.enterTurnaround)
  | _, _ => .next s

/-- The engine enters LISTENING: the reply window opens and the receiver begins to seek (R108,
R109). -/
def Engine.enterListening (e : Engine) : Engine :=
  { e with
    phase := .listening, windowOpen := true, strays := false, receiving := none
    interval := e.active.replyWindow }

/-- TURNAROUND_END (R108). -/
def execTurnaroundEnd (s : State) : Host.Outcome State Fault Refusal :=
  if s.engine.phase = .turnaround then .next (s.withEngine s.engine.enterListening) else .next s

/-- The exchange ends in LISTENING with the window over: STRAY where a stray head was received or a
frame abandoned, and otherwise SILENT (R109). -/
def State.endUnanswered (s : State) : State :=
  s.endExchange (if s.engine.strays then .stray else .silent)

/-- REPLY_WINDOW_END (R109): in LISTENING the exchange ends, but for a character in progress, which
is judged first; in RECEIVING the assembly goes on. -/
def execReplyWindowEnd (s : State) : Host.Outcome State Fault Refusal :=
  if s.engine.windowOpen = false then .next s
  else
    let closed := s.withEngine { s.engine with windowOpen := false }
    match s.engine.phase, s.engine.receiving with
    | .listening, none => .next closed.endUnanswered
    | .listening, some _ => .next closed
    | .receiving, _ => .next closed
    | _, _ => .next s

/-- The receiver has no character in progress any more. -/
def State.characterDone (s : State) : State := s.withEngine { s.engine with receiving := none }

/-- A stray head received or a frame abandoned (R110, R111). -/
def State.countStray (s : State) : State :=
  (s.onCounters (·.countStray)).withEngine
    { (s.onCounters (·.countStray)).engine with strays := true }

/-- The engine goes on listening, or ends the exchange where the window ended while the character was
being received (R109). -/
def State.listenOn (s : State) : State :=
  let s := s.withEngine { s.engine with phase := .listening, assembly := [] }
  if s.engine.windowOpen then s else s.endUnanswered

/-- The station of the exchange in progress (R110). -/
def Engine.station (e : Engine) : Nat := (e.exchange.map Frame.address).getD 0

/-- A head taken in LISTENING (R110): a matching head opens an assembly, any other is a stray head. -/
def State.takeHead (s : State) (c : Character) : State :=
  if c.matchesStation s.engine.station then
    s.withEngine { s.engine with phase := .receiving, assembly := [c] }
  else s.countStray.listenOn

/-- A character that was cut across has ended: it was not received (R105, R107, R108). -/
def State.characterLost (s : State) : State := s.withEngine { s.engine with cutAcross := false }

/-- CHARACTER_IN_LISTENING (R110). A character whose start bit came while the receiver was off is lost
(R108). -/
def execCharacterInListening (samples : CharSamples) (s : State) :
    Host.Outcome State Fault Refusal :=
  match s.engine.phase, samples.character with
  | .listening, some c =>
    if s.engine.cutAcross then .next s.characterLost
    else
      let s := s.characterDone
      if c.isHead then .next (s.takeHead c) else .next s.listenOn
  | _, _ => .next s

/-- A new head in RECEIVING (R111): the frame being assembled is abandoned and counted as a stray;
the head is taken as in LISTENING where it began in the window, and the exchange ends with STRAY
where it did not. -/
def State.newHead (s : State) (c : Character) (inWindow : Bool) : State :=
  if inWindow then s.countStray.takeHead c else s.countStray.endExchange .stray

/-- A frame character in RECEIVING (R111, R113, R114). -/
def State.addCharacter (s : State) (c : Character) : State :=
  let frame := s.engine.assembly ++ [c]
  match assemblyStep frame with
  | .more => s.withEngine { s.engine with assembly := frame }
  | .tooLong => s.endReply (.invalid .format)
  | .complete => s.endReply (validate frame)

/-- CHARACTER_IN_RECEIVING (R111). -/
def execCharacterInReceiving (samples : CharSamples) (s : State) :
    Host.Outcome State Fault Refusal :=
  match s.engine.phase, samples.character with
  | .receiving, some c =>
    if s.engine.cutAcross then .next s.characterLost
    else
      let inWindow := s.engine.receiving.getD s.engine.windowOpen
      let s := s.characterDone
      if c.isHead then .next (s.newHead c inWindow) else .next (s.addCharacter c)
  | _, _ => .next s

/-- UNSOLICITED_CHARACTER (R116): in IDLE and GAP, and not while RESET_n is low (R106). A character
whose start bit came while the receiver was off is not received and not counted (R105). DESIGN CHOICE,
log entry 11: one that a device reset cut across, ending after RESET_n has risen, is counted. -/
def execUnsolicitedCharacter (samples : CharSamples) (s : State) :
    Host.Outcome State Fault Refusal :=
  match s.engine.phase, samples.character with
  | .idle, some _ | .gap, some _ =>
    if s.resetLow then .next s
    else if s.engine.cutAcross then .next s.characterLost
    else .next (s.characterDone.onCounters (·.countUnsolicited))
  | _, _ => .next s

/-- CHARACTER_GAP_LIMIT (R112): in RECEIVING, where no further character has begun. -/
def execCharacterGapLimit (s : State) : Host.Outcome State Fault Refusal :=
  match s.engine.phase, s.engine.receiving with
  | .receiving, none => .next (s.endReply (.invalid .truncated))
  | _, _ => .next s

/-- The engine at its entry into IDLE, with a staged configuration applied (R115, R119, R120). -/
def Engine.enterIdle (e : Engine) : Engine :=
  { e with phase := .idle, interval := 0, active := e.staged.getD e.active, staged := none }

/-- INTER_FRAME_GAP_END (R115): the staged set, then the Transaction Unit, then the Scheduler. -/
def execInterFrameGapEnd (s : State) : Host.Outcome State Fault Refusal :=
  if s.engine.phase = .gap then
    .next (s.withEngine s.engine.enterIdle).resumeTransaction.select
  else .next s

/-- The receiver is seeking (R105, R106). -/
def Engine.seeks (e : Engine) : Bool :=
  match e.phase with
  | .idle | .listening | .receiving | .gap => e.receiving.isNone
  | .sending | .turnaround => false

/-- The receiver is off (R107, R108). -/
def Engine.receiverOff (e : Engine) : Bool :=
  match e.phase with
  | .sending | .turnaround => true
  | .idle | .listening | .receiving | .gap => false

/-- ACCEPTED_START_BIT (R105, R108, R109, R112): a character begins, in or after the reply window. A
start bit whose majority is 1 is a rejected glitch. While the receiver is off no edge is sampled, and
the character stands on RXD unheard until it ends or RXD falls anew. DESIGN CHOICE, log entry 11: a
start bit while RESET_n is low is not remembered. -/
def execAcceptedStartBit (start : BitSamples) (s : State) : Host.Outcome State Fault Refusal :=
  if start.majority || s.resetLow then .next s
  else if s.engine.receiverOff then .next (s.withEngine { s.engine with cutAcross := true })
  else if s.engine.seeks then
    .next
      (s.withEngine { s.engine with receiving := some s.engine.windowOpen, cutAcross := false })
  else .next s

end Sys2Proof.Machine
end

