-- ==== Sys2Proof/Machine/LineCommands.lean ====
section
/-! DEFINITION. LINE_START, LINE_HALT, LINE_CUT, SET_POLL, LINE_STATUS and SET_LINE (chapters 4 and
6). -/

namespace Sys2Proof.Machine

/-- A line-control command without arguments. -/
def withoutArgument (body : List Byte) (effect : Effect) : Effect := fun s =>
  if noArg body then effect s else (s, reply .badArgument)

/-- LINE_START (R61). -/
def lineStartEffect : Effect := fun s =>
  match s.scheduler.line with
  | .running => (s, reply .ok)
  | .stopped | .draining => ((s.changeLine .running .start).select, reply .ok)

def execLineStart (p : Port) (body : List Byte) (s : State) : Host.Outcome State Fault Refusal :=
  .next (s.takePacket p (lineControl p (withoutArgument body lineStartEffect)))

/-- LINE_HALT (R62): a transaction is in progress where busy is set (R60). -/
def lineHaltEffect : Effect := fun s =>
  match s.scheduler.line with
  | .running =>
    if s.scheduler.busy = .none then (s.changeLine .stopped .halt, reply .ok)
    else (s.withScheduler { s.scheduler with line := .draining }, reply .ok)
  | .stopped | .draining => (s, reply .ok)

def execLineHalt (p : Port) (body : List Byte) (s : State) : Host.Outcome State Fault Refusal :=
  .next (s.takePacket p (lineControl p (withoutArgument body lineHaltEffect)))

/-- The engine at a LINE_CUT (R117): a frame being sent is cut and counted, an exchange is
abandoned, GAP and IDLE are not affected. -/
def Engine.cut (e : Engine) : Engine :=
  match e.phase with
  | .sending => { e.enterGap with counters := e.counters.countCut }
  | .turnaround | .listening | .receiving => e.enterGap
  | .gap | .idle => e

/-- The transaction in progress ended by LINE_CUT, with no report (R64, R100). -/
def State.cutTransaction (s : State) : State :=
  match s.transaction with
  | none => s
  | some t =>
    match t.source with
    | .request i => (s.endRequest i .cut).clearTransaction
    | .visit => s.clearTransaction

/-- LINE_CUT (R64, R100, R117): the transaction and its exchange end, then the line state
changes. -/
def lineCutEffect : Effect := fun s =>
  let s := s.cutTransaction.withEngine s.engine.cut
  match s.scheduler.line with
  | .running | .draining => (s.changeLine .stopped .cut, reply .ok)
  | .stopped => (s, reply .ok)

def execLineCut (p : Port) (body : List Byte) (s : State) : Host.Outcome State Fault Refusal :=
  .next (s.takePacket p (lineControl p (withoutArgument body lineCutEffect)))

/-- The Scheduler after SET_POLL (R75). -/
def Scheduler.setPoll (d : Scheduler) (p : Port) (m : PollMode) : Scheduler :=
  match m with
  | .off => { d with mode := .off, requester := none }
  | .once => { d with mode := .once, requester := some p, cursor := 0, visits := 0 }
  | .continuous => { d with mode := .continuous, requester := none, cursor := 0, visits := 0 }

/-- SET_POLL (R75): ONCE and CONTINUOUS make a selection where the line is free (R66). -/
def setPollEffect (p : Port) (body : List Byte) : Effect := fun s =>
  match modeArg body with
  | none => (s, reply .badArgument)
  | some .off => (s.withScheduler (s.scheduler.setPoll p .off), reply .ok)
  | some .once => ((s.withScheduler (s.scheduler.setPoll p .once)).select, reply .ok)
  | some .continuous => ((s.withScheduler (s.scheduler.setPoll p .continuous)).select, reply .ok)

def execSetPoll (p : Port) (body : List Byte) (s : State) : Host.Outcome State Fault Refusal :=
  .next (s.takePacket p (lineControl p (setPollEffect p body)))

/-- LINE_STATUS (R77). -/
def lineStatusEffect (body : List Byte) : Effect := fun s =>
  if noArg body then (s, okWith s.lineStatusBody) else (s, reply .badArgument)

def execLineStatus (p : Port) (body : List Byte) (s : State) : Host.Outcome State Fault Refusal :=
  .next (s.takePacket p (attachedOnly p (lineStatusEffect body)))

/-- SET_LINE (R119, R120): applied at once where the engine is IDLE, a set staged earlier being
discarded, and staged otherwise. -/
def setLineEffect (body : List Byte) : Effect := fun s =>
  match configArg body with
  | none => (s, reply .badArgument)
  | some c =>
    if s.engine.phase = .idle then
      (s.withEngine { s.engine with active := c, staged := none }, reply .ok)
    else (s.withEngine { s.engine with staged := some c }, reply .staged)

def execSetLine (p : Port) (body : List Byte) (s : State) : Host.Outcome State Fault Refusal :=
  .next (s.takePacket p (lineControl p (setLineEffect body)))

end Sys2Proof.Machine
end

