-- ==== Sys2Proof/Machine/RequestCommands.lean ====
section
/-! DEFINITION. SUBMIT and CANCEL (chapter 3). -/

namespace Sys2Proof.Machine

/-- The most slots a port owns (R41). -/
def slotQuota : Nat := 12

/-- The DUPLICATE_TAG answer: the slot that holds the tag and its state (R47, Table 10-1). -/
def State.duplicateTag (s : State) (i : Nat) : Response :=
  ⟨.duplicateTag,
    [byteOf i,
      match s.slot i with
      | .active _ _ => 0x02#8
      | .free | .pending _ _ | .orphaned _ => 0x01#8]⟩

/-- A request that passed every check fills a slot (R44, R48). -/
def State.fillSlot (s : State) (p : Port) (i : Nat) (r : Request) : State :=
  ((s.setSlot i (.pending p r)).onList p (s.place i r.urgent)).onQueue p (·.take 1)

/-- SUBMIT (R46 to R48): the checks in their order, then the lowest FREE slot, then a selection
where the line is free (R66). -/
def submitEffect (p : Port) (body : List Byte) : Effect := fun s =>
  match submitArgs body with
  | none => (s, reply .badArgument)
  | some r =>
    match s.tagged? p r.tag with
    | some i => (s, s.duplicateTag i)
    | none =>
      if r.kind ≠ .broadcast ∧ s.station? r.station = none then (s, reply .unknownStation)
      else if slotQuota ≤ s.slotsOwned p then (s, reply .quota)
      else if !(s.queues.get p).grants 1 then (s, reply .noRoom)
      else
        match s.freeSlot? with
        | none => (s, reply .tableFull)
        | some i => ((s.fillSlot p i r).select, okWith [byteOf i])

def execSubmit (p : Port) (body : List Byte) (s : State) : Host.Outcome State Fault Refusal :=
  .next (s.takePacket p (attachedOnly p (submitEffect p body)))

/-- CANCEL (R52 to R54). -/
def cancelEffect (p : Port) (body : List Byte) : Effect := fun s =>
  match tagArg body with
  | none => (s, reply .badArgument)
  | some tag =>
    match s.tagged? p tag with
    | none => (s, reply .notFound)
    | some i =>
      match s.slot i with
      | .pending _ _ => ((s.unlist p i).endRequest i .cancelled, reply .ok)
      | .active _ _ => (s.writeSlot i (fun r => { r with cancelRequested := true }), reply .ok)
      | .free | .orphaned _ => (s, reply .notFound)

def execCancel (p : Port) (body : List Byte) (s : State) : Host.Outcome State Fault Refusal :=
  .next (s.takePacket p (attachedOnly p (cancelEffect p body)))

end Sys2Proof.Machine
end

