-- ==== Sys2Proof/Machine/SessionCommands.lean ====
section
/-! DEFINITION. ATTACH, DETACH, PORT_STATUS, NEXT_EVENT, BAD_PACKET, BAD_COMMAND, FRAGMENT and the
select line (chapters 8 and 9). -/

namespace Sys2Proof.Machine

/-- The session number after this one: 1, 2, …, 255, 1 (R159). -/
def nextSession (n : Nat) : Nat := if 255 ≤ n then 1 else n + 1

/-- The protocol version (R159). -/
def protocolVersion : Byte := 0x01#8

/-- The record after an accepted ATTACH (R159). -/
def PortRecord.attach (r : PortRecord) (lapse : Nat) : PortRecord :=
  { r with
    session := .attached
    number := nextSession r.number
    lapseTime := lapse
    timer := if lapse = 0 then none else some lapse }

/-- ATTACH (R159). -/
def attachEffect (p : Port) (body : List Byte) : Effect := fun s =>
  if s.isAttached p then (s, reply .alreadyAttached)
  else
    match lapseArg body with
    | none => (s, reply .badArgument)
    | some lapse =>
      ((s.onRecord p (·.attach lapse)).timerSet p,
        okWith [byteOf (nextSession (s.records.get p).number), protocolVersion])

def execAttach (p : Port) (body : List Byte) (s : State) : Host.Outcome State Fault Refusal :=
  .next (s.takePacket p (attachEffect p body))

/-- DETACH (R160). -/
def detachEffect (p : Port) (body : List Byte) : Effect := fun s =>
  if noArg body then (s.tearDown p .detach, reply .ok) else (s, reply .badArgument)

def execDetach (p : Port) (body : List Byte) (s : State) : Host.Outcome State Fault Refusal :=
  .next (s.takePacket p (attachedOnly p (detachEffect p body)))

/-- PORT_STATUS (R151, R161). -/
def portStatusEffect (p : Port) (body : List Byte) : Effect := fun s =>
  if noArg body then (s, okWith (s.portStatusBody p)) else (s, reply .badArgument)

def execPortStatus (p : Port) (body : List Byte) (s : State) :
    Host.Outcome State Fault Refusal :=
  .next (s.takePacket p (portStatusEffect p body))

/-- The payload that follows the contents of a notice: that of its buffer for a REPORT (R132,
R145). -/
def State.noticePayload (s : State) : Notice → List Byte
  | .report r => s.bufferPayload r.buffer
  | .completion _ | .claimGranted _ _ | .claimExpired _ | .stationState _ _ _ _
  | .lineState _ _ | .sweepDone _ => []

/-- The body of a NEXT_EVENT response: kind, missed count, remaining count, contents (R145, R146,
R169). -/
def State.nextEventBody (s : State) (p : Port) : List Byte :=
  let q := s.queues.get p
  match q.notices with
  | [] => [0x00#8, byteOf q.missed, 0x00#8]
  | x :: rest =>
    [x.kindCode, byteOf q.missed, byteOf rest.length] ++ x.contents (s.noticePayload x)

/-- The state after NEXT_EVENT: the oldest notice removed and its reference dropped, the missed
count cleared (R132, R145, R146). -/
def State.removeNotice (s : State) (p : Port) : State :=
  match (s.queues.get p).notices with
  | [] => s.onQueue p EventQueue.next
  | x :: _ => (s.dropReference x).onQueue p EventQueue.next

/-- NEXT_EVENT (R145, R146). -/
def nextEventEffect (p : Port) (body : List Byte) : Effect := fun s =>
  if noArg body then (s.removeNotice p, okWith (s.nextEventBody p))
  else (s, reply .badArgument)

def execNextEvent (p : Port) (body : List Byte) (s : State) : Host.Outcome State Fault Refusal :=
  .next (s.takePacket p (attachedOnly p (nextEventEffect p body)))

/-- BAD_PACKET (R154): the packet is complete and refused with no effect in any block; it does not
restart the lapse timer. Bytes that are no complete bad packet are not this happening. -/
def execBadPacket (p : Port) (bytes : List Byte) (s : State) :
    Host.Outcome State Fault Refusal :=
  match s.windows.get p with
  | .receiving =>
    if packetWhole bytes && packetBad bytes then
      .next (s.setWindow p (.answered (reply .badPacket)))
    else .next s
  | .closed | .ignored | .answered _ => .next s

/-- BAD_COMMAND (R155): refused whether the port is attached or detached. A code that is a command
is not this happening. -/
def execBadCommand (p : Port) (code : Byte) (_body : List Byte) (s : State) :
    Host.Outcome State Fault Refusal :=
  if isCommandCode code then .next s
  else .next (s.takePacket p (fun s => (s, reply .badCommand)))

/-- FRAGMENT (R157): select rises before the packet is complete; the bytes are discarded and the
fragment count is incremented. In a window that is not examined no byte is received or counted, and
it closes (R166). Bytes that are no packet cut short are not this happening. -/
def execFragment (p : Port) (bytes : List Byte) (s : State) : Host.Outcome State Fault Refusal :=
  if bytes.isEmpty || packetComplete bytes then .next s
  else
    match s.windows.get p with
    | .receiving =>
      .next
        ((s.onRecord p fun r => { r with fragments := satInc 65535 r.fragments }).setWindow p
          .closed)
    | .ignored => .next (s.setWindow p .closed)
    | .closed | .answered _ => .next s

/-- SELECT_FALLS (R152): a window opens. While RESET_n is low it is not examined, and stays so until
select falls again (R166). -/
def execSelectFalls (p : Port) (s : State) : Host.Outcome State Fault Refusal :=
  match s.windows.get p with
  | .closed => .next (s.setWindow p (if s.resetLow then .ignored else .receiving))
  | .ignored | .receiving | .answered _ => .next s

/-- SELECT_RISES (R152, R157): the window closes with nothing counted, and a prepared response is
not kept. -/
def execSelectRises (p : Port) (s : State) : Host.Outcome State Fault Refusal :=
  .next (s.setWindow p .closed)

end Sys2Proof.Machine
end

