-- ==== Sys2Proof/Machine/TimeEvents.lean ====
section
/-! DEFINITION. The millisecond timebase, the lapse of a session, and device reset (R23, R162,
R166). -/

namespace Sys2Proof.Machine

/-! ### A tick of the timebase (R23, R32, R162) -/

/-- Every record's remaining time and every running lapse timer falls by 1, but for those that the
tick in progress has reached already and those whose time was set in it, which counts from the next
tick (R23, R162, log entry 3); the tick is over for the next ones. A time set before the tick began is
counted by it, a RENEW's too, but for the one that R34 may keep from it (State.renewClaim). -/
def State.countDown (s : State) : State :=
  (((s.withTimebase (s.timebase + 1)).withTicked ⟨[], []⟩).withClaims
      (s.claims.map fun c =>
        if c.target ∈ s.ticked.claims then c
        else { c with remaining := c.remaining - 1 })).withRecords
    (s.records.mapPort fun p r =>
      if p ∈ s.ticked.ports then r else { r with timer := r.timer.map (· - 1) })

/-- A happening that a tick brings about: a record expires, or a session lapses. -/
inductive TickEnd where
  | expiry (target : Nat)
  | lapse (port : Port)
deriving DecidableEq, Repr

/-- The lapse timer of the attached port stands at 0 (R162). -/
def State.lapses (s : State) (p : Port) : Bool :=
  s.isAttached p && decide ((s.records.get p).timer = some 0)

/-- What the counting down of a tick has brought to 0. -/
def State.tickEnds (s : State) : List TickEnd :=
  (s.claims.filter (fun c => c.remaining == 0)).map (fun c => .expiry c.target) ++
    (Port.all.filter s.lapses).map .lapse

/-- One expiry or lapse (R32, R162). -/
def State.takeEnd (s : State) : TickEnd → State
  | .expiry target => s.expire target
  | .lapse p => s.tearDown p .lapse

/-- The expiries and lapses of a tick, each a happening of its own; which of several comes next is a
free value (log entry 5). A teardown may hand on a record that stood at 0, so each is looked for
afresh. -/
def State.finishTick : Nat → State → State
  | 0, s => s
  | fuel + 1, s =>
    match s.tickEnds with
    | [] => s
    | [x] => s.takeEnd x
    | x :: y :: rest =>
      let ends := x :: y :: rest
      let next := ends.getD (Config.tickPick s.picks % ends.length) x
      State.finishTick fuel ((s.withPicks (s.picks + 1)).takeEnd next)

/-- TIMEBASE_TICK (R23, R162): every record's remaining time and every running lapse timer falls by
1, and those that reach 0 expire or lapse in this happening. The timebase ticks from the end of
device reset. -/
def execTimebaseTick (s : State) : Host.Outcome State Fault Refusal :=
  if s.resetLow then .next s
  else .next (State.finishTick s.countDown.tickEnds.length s.countDown)

/-- LAPSE (R162, R163): the tick reaches this port's lapse timer ahead of the row TIMEBASE_TICK. Its
last millisecond is counted down, and the attached port is torn down in this happening. The claims it
hands on count from the next tick, so the row TIMEBASE_TICK leaves them out too (R23, log entries 3 and
7). -/
def execLapse (p : Port) (s : State) : Host.Outcome State Fault Refusal :=
  if s.isAttached p = true ∧ (s.records.get p).timer.any (fun n => decide (n ≤ 1)) = true ∧
      p ∉ s.ticked.ports then
    .next ((s.reachPort p).tearDown p .lapse)
  else .next s

/-- A window at device reset: select stays where it is, and a window that is open is not examined
(R166). -/
def Window.atReset : Window → Window
  | .closed => .closed
  | .ignored | .receiving | .answered _ => .ignored

/-- DEVICE_RESET (R166): every block returns to its reset state and no notice is posted. The command
queue and the count of free choices are the model's and stay. DESIGN CHOICE, log entry 11: no character
in progress is remembered, so a character row taken after RESET_n has risen is one that began then. -/
def execDeviceReset (s : State) : Host.Outcome State Fault Refusal :=
  .next
    ((((State.reset.withResetLow true).withWindows (s.windows.map Window.atReset)).withPicks
      s.picks).withPending s.pending)

/-- DEVICE_RESET_ENDS (R166): RESET_n rises. -/
def execDeviceResetEnds (s : State) : Host.Outcome State Fault Refusal :=
  .next (s.withResetLow false)

end Sys2Proof.Machine
end

