-- ==== Sys2Proof/Machine/Dispatch.lean ====
section
/-! DEFINITION. Each command's meaning. -/

namespace Sys2Proof.Machine

/-- The effect of a command on everything but the queue of commands. -/
def exec (i : Instr) (s : State) : Host.Outcome State Fault Refusal :=
  match i with
  | .attach p body => Sys2Proof.Machine.execAttach p body s
  | .detach p body => Sys2Proof.Machine.execDetach p body s
  | .portStatus p body => Sys2Proof.Machine.execPortStatus p body s
  | .nextEvent p body => Sys2Proof.Machine.execNextEvent p body s
  | .enroll p body => Sys2Proof.Machine.execEnroll p body s
  | .dismiss p body => Sys2Proof.Machine.execDismiss p body s
  | .setStation p body => Sys2Proof.Machine.execSetStation p body s
  | .subscribe p body => Sys2Proof.Machine.execSubscribe p body s
  | .unsubscribe p body => Sys2Proof.Machine.execUnsubscribe p body s
  | .stationStatus p body => Sys2Proof.Machine.execStationStatus p body s
  | .claim p body => Sys2Proof.Machine.execClaim p body s
  | .renew p body => Sys2Proof.Machine.execRenew p body s
  | .release p body => Sys2Proof.Machine.execRelease p body s
  | .claimStatus p body => Sys2Proof.Machine.execClaimStatus p body s
  | .submit p body => Sys2Proof.Machine.execSubmit p body s
  | .cancel p body => Sys2Proof.Machine.execCancel p body s
  | .lineStart p body => Sys2Proof.Machine.execLineStart p body s
  | .lineHalt p body => Sys2Proof.Machine.execLineHalt p body s
  | .lineCut p body => Sys2Proof.Machine.execLineCut p body s
  | .setPoll p body => Sys2Proof.Machine.execSetPoll p body s
  | .lineStatus p body => Sys2Proof.Machine.execLineStatus p body s
  | .setLine p body => Sys2Proof.Machine.execSetLine p body s
  | .badPacket p bytes => Sys2Proof.Machine.execBadPacket p bytes s
  | .badCommand p code body => Sys2Proof.Machine.execBadCommand p code body s
  | .fragment p bytes => Sys2Proof.Machine.execFragment p bytes s
  | .timebaseTick => Sys2Proof.Machine.execTimebaseTick s
  | .claimExpiry target => Sys2Proof.Machine.execClaimExpiry target s
  | .lapse p => Sys2Proof.Machine.execLapse p s
  | .deviceReset => Sys2Proof.Machine.execDeviceReset s
  | .lastStopBitEnd => Sys2Proof.Machine.execLastStopBitEnd s
  | .turnaroundEnd => Sys2Proof.Machine.execTurnaroundEnd s
  | .replyWindowEnd => Sys2Proof.Machine.execReplyWindowEnd s
  | .characterInListening c => Sys2Proof.Machine.execCharacterInListening c s
  | .characterInReceiving c => Sys2Proof.Machine.execCharacterInReceiving c s
  | .unsolicitedCharacter c => Sys2Proof.Machine.execUnsolicitedCharacter c s
  | .characterGapLimit => Sys2Proof.Machine.execCharacterGapLimit s
  | .interFrameGapEnd => Sys2Proof.Machine.execInterFrameGapEnd s
  | .acceptedStartBit b => Sys2Proof.Machine.execAcceptedStartBit b s
  | .deviceResetEnds => Sys2Proof.Machine.execDeviceResetEnds s
  | .selectFalls p => Sys2Proof.Machine.execSelectFalls p s
  | .selectRises p => Sys2Proof.Machine.execSelectRises p s

end Sys2Proof.Machine
end

