-- ==== Sys2Proof/Machine/FieldStations.lean ====
section
/-! DEFINITION. What a station on the line must do (R172 to R174): the frames it takes, its send bit and
report bit, and its replies. A station is no part of the LQ4 and no field of State; what it sends
reaches the part as the rows of received characters. The part's half of the protocol is `judgeFrame`,
`StationEntry.validReply`, `StationEntry.successfulProbe` and `State.judgeReport`. -/

namespace Sys2Proof.Machine

/-- What a station keeps of the protocol: its send bit, the S that the next new SEND will carry (R173),
and its report bit with the reports not yet consumed, in the order it made them, of which the first is
the held report (R174). -/
structure FieldStation where
  address : Nat
  sendBit : Bool
  reportBit : Bool
  reports : List (List Byte)
deriving DecidableEq, Repr

/-- A station at its start and after a restart: both bits are 0 (R173, R174; of the report
bit after a restart DEDUCED, log entry 16). -/
def FieldStation.start (address : Nat) (reports : List (List Byte)) : FieldStation :=
  { address := address, sendBit := false, reportBit := false, reports := reports }

/-- What a station decides for itself, which the manual leaves to its design: the reason with which it
will not act on a SEND, or none where it acts, and its answer to a FETCH, a NAK's reason or the bytes of
a DATA (R173). -/
structure StationWill where
  sendNak : Option Nat
  fetchNak : Option Nat
  fetchData : List Byte
deriving DecidableEq, Repr

/-- The frame that a station takes from the characters on the line, or none where it discards them
(R172): a head of direction 0 with the station's address or 0, no framing error, no idle time between
the characters, a length that suits the kind, and a check character that agrees. R172 tests no mark bit
after the head and no reason bits: DESIGN CHOICE, log entry 16, a run whose later characters carry mark
bit 1 is taken where its other tests hold, and one whose control character fails R114 is discarded. -/
def FieldStation.takes (st : FieldStation) (noIdle : Bool) (line : List Character) : Option Reply :=
  match line with
  | [] => none
  | head :: _ =>
    if noIdle && head.isHead && !head.data.getLsbD 7 &&
        (head.data.toNat == st.address || head.data.toNat == 0) &&
        decide (assemblyStep line = .complete) then
      match validate line with
      | .frame f => some f
      | .sent | .invalid _ | .silent | .stray => none
    else none

/-- What a taken frame brings about at a station: the station after it, the payload acted on, and the
reply. -/
structure StationStep where
  station : FieldStation
  acted : Option (List Byte)
  reply : Option Reply
deriving DecidableEq, Repr

/-- A reply of a station: kind, S bit, NAK reason, payload. No noise is sent. -/
def stationReply (kind : FrameKind) (sBit : Bool) (reason : Nat) (payload : List Byte) : Reply :=
  { kind := kind, sBit := sBit, reason := reason, payload := payload, noise := false }

/-- A SEND taken (R173): new where its S equals the station's send bit, and acted on or refused; a
copy of the SEND last accepted where it differs. -/
def FieldStation.takeSend (st : FieldStation) (will : StationWill) (sBit : Bool)
    (payload : List Byte) : StationStep :=
  if sBit = st.sendBit then
    match will.sendNak with
    | none =>
      { station := { st with sendBit := !st.sendBit }, acted := some payload
        reply := some (stationReply .ack sBit 0 []) }
    | some reason =>
      { station := st, acted := none, reply := some (stationReply .nak false reason []) }
  else { station := st, acted := none, reply := some (stationReply .ack sBit 0 []) }

/-- The answer to a POLL: the held report with the station's report bit, or NIL with the POLL's S
(R174, Table 10-7). -/
def FieldStation.offers (st : FieldStation) (sBit : Bool) : Reply :=
  match st.reports with
  | [] => stationReply .nil sBit 0 []
  | payload :: _ => stationReply .report st.reportBit 0 payload

/-- A POLL taken (R174): a POLL whose S differs from the report bit gives up the held report as
consumed and sets the report bit to its S; either POLL is then answered. -/
def FieldStation.takePoll (st : FieldStation) (sBit : Bool) : StationStep :=
  let next :=
    if sBit = st.reportBit then st
    else { st with reportBit := sBit, reports := st.reports.tail }
  { station := next, acted := none, reply := some (next.offers sBit) }

/-- A frame to the station's own address taken (R173, R174). A kind that the part does not send is no
frame to a station (DESIGN CHOICE, log entry 16). -/
def FieldStation.takeFrame (st : FieldStation) (will : StationWill) (f : Reply) : StationStep :=
  match f.kind with
  | .send => st.takeSend will f.sBit f.payload
  | .fetch =>
    { station := st, acted := none
      reply :=
        match will.fetchNak with
        | some reason => some (stationReply .nak false reason [])
        | none => some (stationReply .data false 0 will.fetchData) }
  | .probe =>
    { station := { st with sendBit := false, reportBit := false }, acted := none
      reply := some (stationReply .ack false 0 []) }
  | .poll => st.takePoll f.sBit
  | .ack | .nak | .data | .nil | .report => { station := st, acted := none, reply := none }

/-- A broadcast taken: its payload is acted on, no bit changes and nothing is sent (R172). -/
def FieldStation.takeBroadcast (st : FieldStation) (f : Reply) : StationStep :=
  { station := st, acted := if f.kind = .send then some f.payload else none, reply := none }

/-- A station hears the characters of a frame (R172 to R174): it discards them, or takes the frame as
its own or as a broadcast. -/
def FieldStation.hears (st : FieldStation) (will : StationWill) (noIdle : Bool)
    (line : List Character) : StationStep :=
  match st.takes noIdle line with
  | none => { station := st, acted := none, reply := none }
  | some f =>
    if line.head?.any (fun head => head.data.toNat == 0) then st.takeBroadcast f
    else st.takeFrame will f

/-- The characters of a station's reply: direction 1 and the station's address in its head (R172). -/
def FieldStation.replyCharacters (st : FieldStation) (r : Reply) : List Character :=
  frameCharacters (frameBytes (byteOf (128 + st.address)) r.kind r.sBit r.reason r.payload)

end Sys2Proof.Machine
end

