-- ==== Sys2Proof/Safety.lean ====
section
/-! DEFINITION. What a sound state of the part is, group by group. Each group is an abbreviation of a
decidable proposition; the manual's capacities and "at most" sentences stand here as claims about
states, not as fields' types. -/

namespace Sys2Proof.Machine

/-! ### Stations (chapter 1) -/

/-- The ranges of Table 1-1, the miss count being 0 exactly in UNKNOWN and ONLINE (R10), and the
subscription records in port order, at most one for a port. -/
abbrev StationEntry.Ok (e : StationEntry) : Prop :=
  (1 ≤ e.address ∧ e.address ≤ 126) ∧ e.miss ≤ 15 ∧
  (e.miss = 0 ↔ e.state = .unknown ∨ e.state = .online) ∧
  e.subscribers.Pairwise (fun x y => x.port.index < y.port.index) ∧
  e.exchangesOk ≤ 65535 ∧ e.totalMisses ≤ 65535 ∧ e.noisyFrames ≤ 65535 ∧
  e.lostReports ≤ 65535 ∧ e.deferredReports ≤ 65535

/-- R1: at most 64 entries, no two with one address, in rising order of address. -/
abbrev State.DirectoryOk (s : State) : Prop :=
  s.directory.length ≤ 64 ∧ s.directory.Pairwise (fun x y => x.address < y.address) ∧
  ∀ e ∈ s.directory, e.Ok

/-- Table 1-2: synchronised in each state, and an OFFLINE station's miss count at least 2. -/
abbrev State.SynchronisedOk (s : State) : Prop :=
  ∀ e ∈ s.directory,
    (e.state = .unknown → e.synchronised = false) ∧ (e.state = .online → e.synchronised = true) ∧
    (e.state = .offline → e.synchronised = false ∧ 2 ≤ e.miss)

/-! ### Claims (chapter 2) -/

/-- Table 2-1 and R22: at most three waiters, no port twice, and the holder not among them. -/
abbrev ClaimRecord.Ok (c : ClaimRecord) : Prop :=
  c.target ≤ 126 ∧ (1 ≤ c.remaining ∧ c.remaining ≤ 60000) ∧ c.waiters.length ≤ 3 ∧
  (c.waiters.map Waiter.port).Nodup ∧ (∀ w ∈ c.waiters, w.port ≠ c.holder) ∧
  ∀ w ∈ c.waiters, 1 ≤ w.duration ∧ w.duration ≤ 60000

/-- R22: at most 16 records, each with a distinct target. -/
abbrev State.ClaimsOk (s : State) : Prop :=
  s.claims.length ≤ 16 ∧ s.claims.Pairwise (fun x y => x.target < y.target) ∧
  ∀ c ∈ s.claims, c.Ok

/-- R23: the tick in progress leaves out each record and each port at most once. -/
abbrev State.TickOk (s : State) : Prop :=
  s.ticked.claims.Nodup ∧ (∀ t ∈ s.ticked.claims, t ≤ 126) ∧ s.ticked.ports.Nodup

/-! ### Ports (chapters 8 and 9) -/

/-- Table 9-1: the ranges of a port record, and the lapse timer running exactly in a session with a
lapse time above 0, within 1 and that lapse time. -/
abbrev PortRecord.Ok (r : PortRecord) : Prop :=
  r.number ≤ 255 ∧ (r.lapseTime = 0 ∨ (50 ≤ r.lapseTime ∧ r.lapseTime ≤ 60000)) ∧
  r.fragments ≤ 65535 ∧
  (r.session = .attached → 1 ≤ r.number) ∧
  (r.timer.isSome ↔ r.session = .attached ∧ 0 < r.lapseTime) ∧
  (∀ t ∈ r.timer, 1 ≤ t ∧ t ≤ r.lapseTime)

abbrev State.RecordsOk (s : State) : Prop := ∀ p ∈ Port.all, (s.records.get p).Ok

/-- R137, R148: a detached port's queue is empty with both counts 0, and ATTN is asserted exactly
while the port is attached and its queue holds a notice. -/
abbrev State.AttnOk (s : State) : Prop :=
  ∀ p ∈ Port.all,
    (s.queues.get p).missed ≤ 255 ∧
    ((s.queues.get p).attn = (s.isAttached p && !(s.queues.get p).notices.isEmpty)) ∧
    (s.isAttached p = false → s.queues.get p = .reset)

/-- R137, R139: notices plus units never exceed 16, and the units are one for each slot owned, one
for each claim held and two for each wait. -/
abbrev State.RoomOk (s : State) : Prop :=
  ∀ p ∈ Port.all,
    (s.queues.get p).sum ≤ 16 ∧
    (s.queues.get p).reserved = s.slotsOwned p + s.claimsHeld p + 2 * s.claimsWaited p

/-- Only attached ports hold or wait for claims, own slots, subscribe, or are the ONCE requester
(R164). -/
abbrev State.OwnersAttached (s : State) : Prop :=
  (∀ c ∈ s.claims, s.isAttached c.holder ∧ ∀ w ∈ c.waiters, s.isAttached w.port) ∧
  (∀ x ∈ s.slots, ∀ p ∈ x.owner?, s.isAttached p) ∧
  (∀ e ∈ s.directory, ∀ x ∈ e.subscribers, s.isAttached x.port) ∧
  (∀ p ∈ s.scheduler.requester, s.isAttached p)

/-! ### Requests (chapter 3) -/

/-- The ranges of Table 3-1 with R46. -/
abbrev Request.Ok (r : Request) : Prop :=
  r.tag ≤ 255 ∧ r.kind.allowsLength r.payload.length ∧ r.kind.allowsStation r.station ∧
  (∀ b ∈ r.retryBudget, b ≤ 7) ∧
  (r.replyLimit.isSome ↔ r.kind = .fetch) ∧ (∀ n ∈ r.replyLimit, n ≤ 32) ∧
  r.attempts ≤ 1 + r.retryBudget.getD 7 ∧
  (∀ n ∈ r.nakReason, n ≤ 7) ∧ (∀ b ∈ r.replyPayload, b.length ≤ 32)

/-- A PENDING request has made no attempt and carries no outcome (Table 3-1, R52); one on the line
has begun an attempt and has its retry budget (R50, R51). -/
def Slot.progressOk : Slot → Bool
  | .free => true
  | .pending _ r =>
    decide (r.attempts = 0 ∧ r.cancelRequested = false ∧ r.lastFault = none ∧
      r.nakReason = none ∧ r.replyPayload = none)
  | .active _ r | .orphaned r => decide (1 ≤ r.attempts) && r.retryBudget.isSome

abbrev Slot.Ok (x : Slot) : Prop := (∀ r ∈ x.request?, r.Ok) ∧ x.progressOk = true

/-- The slot is ACTIVE or ORPHANED. -/
def Slot.onTheLine : Slot → Bool
  | .active _ _ | .orphaned _ => true
  | .free | .pending _ _ => false

/-- The slot is a PENDING slot of the port. -/
def Slot.isPendingOf (p : Port) : Slot → Bool
  | .pending q _ => decide (q = p)
  | .free | .active _ _ | .orphaned _ => false

/-- R39 to R43: 32 slots; a port owns at most 12; its pending list holds exactly its PENDING slots,
each once, urgent ones first; its tags are distinct; at most one slot is ACTIVE or ORPHANED. -/
abbrev State.SlotsOk (s : State) : Prop :=
  s.slots.length = 32 ∧ (∀ x ∈ s.slots, x.Ok) ∧
  (s.slots.countP Slot.onTheLine ≤ 1) ∧
  ∀ p ∈ Port.all,
    s.slotsOwned p ≤ 12 ∧ (s.lists.get p).Nodup ∧
    (∀ i ∈ List.range 32, i ∈ s.lists.get p ↔ (s.slot i).isPendingOf p) ∧
    (∀ i ∈ s.lists.get p, i < 32) ∧
    (s.lists.get p).Pairwise (fun i j => s.isUrgent j → s.isUrgent i) ∧
    (List.range 32).Pairwise (fun i j =>
      (s.slot i).owner? = some p → (s.slot j).owner? = some p →
        (s.slot i).request?.map Request.tag ≠ (s.slot j).request?.map Request.tag)

/-! ### The line (chapters 4 to 6) -/

/-- Table 4-1: the ranges of the Scheduler's fields. -/
abbrev State.SchedulerOk (s : State) : Prop :=
  s.scheduler.cursor ≤ 126 ∧ s.scheduler.visits ≤ 64 ∧ s.scheduler.credit ≤ 8 ∧
  (s.scheduler.mode ≠ .once → s.scheduler.requester = none)

/-- The record and busy name the same transaction (R80), and its main kind is that of its slot, or
PROBE or POLL for a visit (R81). -/
def State.recordMatches (s : State) : Bool :=
  match s.transaction, s.scheduler.busy with
  | none, .none => true
  | some t, .request i =>
    decide (t.source = .request i) && (s.slot i).onTheLine &&
      decide ((s.slot i).request?.map (fun r => (r.station, r.kind.main)) =
        some (t.station, t.main))
  | some t, .visit a =>
    decide (t.source = .visit ∧ t.station = a ∧ (t.main = .probe ∨ t.main = .poll) ∧
      t.phase ≠ .awaitRetry)
  | _, _ => false

abbrev State.RecordOk (s : State) : Prop := s.recordMatches = true

/-- An exchange is in progress in the engine (R106). -/
def EnginePhase.inExchange : EnginePhase → Bool
  | .sending | .turnaround | .listening | .receiving => true
  | .idle | .gap => false

/-- The main kind is one that a join probe may open (R82). -/
def MainKind.mayProbe : MainKind → Bool
  | .send | .fetch | .poll => true
  | .probe | .broadcast => false

/-- A further attempt is left to the request that a transaction serves (R95). -/
def State.retryDue (s : State) (t : Transaction) : Bool :=
  match t.source with
  | .request i => (s.slot i).request?.any (fun r => !r.spent)
  | .visit => false

/-- The phase of the record against the state of the engine: an exchange in progress, with the frame
that the record calls for, exactly in the phases that wait for one; the gap in the others (R80,
R83, R93, R106). -/
def State.phaseMatches (s : State) : Bool :=
  match s.transaction with
  | none => decide (s.engine.phase = .idle ∨ s.engine.phase = .gap)
  | some t =>
    match t.phase with
    | .joinProbe =>
      s.engine.phase.inExchange && decide (s.engine.exchange = some (probeFrame t.station)) &&
        t.main.mayProbe
    | .mainFrame =>
      s.engine.phase.inExchange && decide (s.engine.exchange = some (s.mainFrame t)) &&
        !s.needsProbe t
    | .awaitMain => decide (s.engine.phase = .gap) && !s.needsProbe t && t.main.mayProbe
    | .awaitRetry => decide (s.engine.phase = .gap) && s.retryDue t

abbrev State.PhaseOk (s : State) : Prop := s.phaseMatches = true

/-- Table 4-2: no transaction in STOPPED, one in DRAINING; a slot on the line is the transaction's
(R40, R62, R63). -/
abbrev State.LineOk (s : State) : Prop :=
  (s.scheduler.line = .stopped → s.scheduler.busy = .none) ∧
  (s.scheduler.line = .draining → s.scheduler.busy ≠ .none) ∧
  ∀ i ∈ List.range 32, (s.slot i).onTheLine = true → s.scheduler.busy = .request i

/-- The engine's own fields against its state (R104, R106, R109, R118, R119). -/
abbrev Engine.Ok (e : Engine) : Prop :=
  (e.de = true ↔ e.phase = .sending) ∧
  (e.exchange.isSome = true ↔ e.phase.inExchange = true) ∧
  (e.windowOpen = true → e.phase = .listening ∨ e.phase = .receiving) ∧
  (e.phase = .listening → e.windowOpen = true ∨ e.receiving.isSome = true) ∧
  (e.assembly ≠ [] ↔ e.phase = .receiving) ∧
  (e.phase = .sending ∨ e.phase = .turnaround → e.receiving = none) ∧
  (e.cutAcross = true → e.receiving = none) ∧
  (e.phase = .idle → e.staged = none) ∧
  e.active.inRanges = true ∧ (∀ c ∈ e.staged, c.inRanges = true) ∧
  e.counters.framesSent ≤ 65535 ∧ e.counters.repliesValid ≤ 65535 ∧
  e.counters.repliesBad ≤ 65535 ∧ e.counters.strayHeads ≤ 65535 ∧
  e.counters.unsolicited ≤ 65535 ∧ e.counters.cuts ≤ 65535

abbrev State.EngineOk (s : State) : Prop := s.engine.Ok

/-! ### Use of stations, and reports (chapters 1, 2 and 7) -/

/-- A station that a claim record, a slot or the transaction names is enrolled (R5, R22, R56,
R103). -/
abbrev State.InUseEnrolled (s : State) : Prop :=
  (∀ c ∈ s.claims, c.target ≠ 0 → (s.station? c.target).isSome = true) ∧
  (∀ x ∈ s.slots, ∀ r ∈ x.request?, r.kind ≠ .broadcast →
    (s.station? r.station).isSome = true) ∧
  (∀ t ∈ s.transaction, t.main ≠ .broadcast → (s.station? t.station).isSome = true)

/-- The notice refers to buffer `i`. -/
def Notice.refersTo (i : Nat) : Notice → Bool
  | .report r => r.buffer == i
  | .completion _ | .claimGranted _ _ | .claimExpired _ | .stationState _ _ _ _
  | .lineState _ _ | .sweepDone _ => false

/-- The event-queue notices that refer to buffer `i`, over the four queues (R123). -/
def State.references (s : State) (i : Nat) : Nat :=
  (Port.all.map fun p => (s.queues.get p).notices.countP (Notice.refersTo i)).sum

/-- R123: 16 buffers; each one's reference count is the number of notices that refer to it, and it is
free exactly when that is 0; no queue holds two notices for one buffer, and no notice names a
seventeenth buffer. -/
abbrev State.BuffersOk (s : State) : Prop :=
  s.buffers.length = 16 ∧
  (∀ i ∈ List.range 16,
    ((s.buffers.getD i none).map ReportBuffer.refs).getD 0 = s.references i ∧
    ((s.buffers.getD i none).isNone = true ↔ s.references i = 0) ∧
    (∀ p ∈ Port.all, (s.queues.get p).notices.countP (Notice.refersTo i) ≤ 1) ∧
    ∀ b ∈ s.buffers.getD i none,
      (1 ≤ b.station ∧ b.station ≤ 126) ∧ 1 ≤ b.payload.length ∧ b.payload.length ≤ 32) ∧
  ∀ p ∈ Port.all, ∀ x ∈ (s.queues.get p).notices,
    x.kindCode = 0x04#8 → (List.range 16).any (fun i => x.refersTo i) = true

/-! ### Device reset -/

/-- While RESET_n is low every block stands in its reset state and no window is examined (R106,
R166). -/
abbrev State.ResetOk (s : State) : Prop :=
  s.resetLow = true →
    (∀ p ∈ Port.all, s.windows.get p = .closed ∨ s.windows.get p = .ignored) ∧
    s = { State.reset with
          resetLow := true, windows := s.windows, picks := s.picks, pending := s.pending }

/-- Every group holds. -/
abbrev State.Sound (s : State) : Prop :=
  s.DirectoryOk ∧ s.SynchronisedOk ∧ s.ClaimsOk ∧ s.TickOk ∧ s.RecordsOk ∧ s.AttnOk ∧ s.RoomOk ∧
  s.OwnersAttached ∧ s.SlotsOk ∧ s.SchedulerOk ∧ s.RecordOk ∧ s.PhaseOk ∧ s.LineOk ∧
  s.EngineOk ∧ s.InUseEnrolled ∧ s.BuffersOk ∧ s.ResetOk


/-! ### Smaller invariants, each kept by every step on its own -/

/-- The directory, the Claim Table, the port records and the Scheduler's fields are in their ranges
(Tables 1-1, 2-1, 4-1 and 9-1). -/
abbrev State.TablesOk (s : State) : Prop :=
  s.DirectoryOk ∧ s.ClaimsOk ∧ s.RecordsOk ∧ s.SchedulerOk

/-- Each pending list holds PENDING slots of its port alone (R41, R43). -/
abbrev State.ListsOwn (s : State) : Prop :=
  ∀ p ∈ Port.all, ∀ i ∈ s.lists.get p, (s.slot i).isPendingOf p = true

/-- The slot that the transaction record names, where it names one, is on the line (R40, R80). -/
def State.sourceOnLine (s : State) : Bool :=
  match s.transaction.map Transaction.source with
  | some (.request i) => (s.slot i).onTheLine
  | some .visit | none => true

abbrev State.SourceOnLine (s : State) : Prop := s.sourceOnLine = true

/-- R137, R139: the event queues' room and reservations agree with what the ports own, only attached
ports own anything, and the slot of the transaction in progress is on the line. -/
abbrev State.AccountsOk (s : State) : Prop :=
  s.ClaimsOk ∧ s.AttnOk ∧ s.RoomOk ∧ s.OwnersAttached ∧ s.ListsOwn ∧ s.SourceOnLine

/-- R123: the reference counts agree with the notices, over a sound directory. -/
abbrev State.StoreOk (s : State) : Prop := s.DirectoryOk ∧ s.BuffersOk

/-! ### Terms of the statements -/

/-- A window of the port is open and examined and its packet is not complete: a packet that
completes now is taken (R153, R154). -/
abbrev State.Receives (s : State) (p : Port) : Prop := s.windows.get p = .receiving

/-- A packet that completes now on the port is taken, and the port has a session. -/
abbrev State.Ready (s : State) (p : Port) : Prop := s.Receives p ∧ s.isAttached p = true

/-- No other port holds the line claim (R36). -/
abbrev State.Controls (s : State) (p : Port) : Prop :=
  ∀ c ∈ s.claim? 0, c.holder = p

/-- What the tick in progress, if one is, leaves out once this record's remaining time has been set,
which counts from the next tick (R23). -/
def State.claimNoted (s : State) (target : Nat) : Ticked :=
  if s.ticked = ⟨[], []⟩ ∨ target ∈ s.ticked.claims then s.ticked
  else { s.ticked with claims := target :: s.ticked.claims }

/-- What the tick in progress, if one is, leaves out once this port's lapse timer has been set, which
counts from the tick after (R162). -/
def State.timerNoted (s : State) (p : Port) : Ticked :=
  if s.ticked = ⟨[], []⟩ ∨ p ∈ s.ticked.ports then s.ticked
  else { s.ticked with ports := p :: s.ticked.ports }

/-- A packet that passed its check has completed on the port: the lapse timer of an attached port
with a lapse time above 0 stands at that lapse time and counts from the tick after, one in progress
(log entry 3) leaving it out; nothing else has changed (R162). -/
def State.heard (s : State) (p : Port) : State :=
  { s with
    records :=
      s.records.set p
        (if (s.records.get p).session = .attached ∧ 0 < (s.records.get p).lapseTime then
          { s.records.get p with timer := some (s.records.get p).lapseTime }
        else s.records.get p)
    ticked :=
      if (s.records.get p).session = .attached ∧ 0 < (s.records.get p).lapseTime then s.timerNoted p
      else s.ticked }

/-- This response is prepared on the port, and nothing else has changed (R156). -/
def State.answer (s : State) (p : Port) (st : Status) (body : List Byte) : State :=
  { s with windows := s.windows.set p (.answered ⟨st, body⟩) }

/-- The line state has become `new`, with a LINE_STATE notice of this cause offered to every attached
port in port order, and nothing else has changed (R65). -/
def State.announceLine (s : State) (new : LineState) (cause : LineCause) : State :=
  ({ s with scheduler := { s.scheduler with line := new } }).offerEach
    (Port.all.filter (fun (q : Port) => decide ((s.records.get q).session = SessionState.attached)))
    (.lineState new cause)

/-- The transaction in progress is over: the record is empty, busy is none, and a line that was
DRAINING has stopped with cause HALT; nothing else has changed (R63, R97). -/
def State.transactionOver (s : State) : State :=
  let ended := { s with transaction := none, scheduler := { s.scheduler with busy := .none } }
  if s.scheduler.line = .draining then ended.announceLine .stopped .halt else ended

/-- The frame is on its way: the record is in this phase, and the engine, SENDING with DE asserted,
holds the frame, a character being received being cut across; nothing else has changed (R82, R107). -/
def State.sendsFrame (s : State) (t : Transaction) (phase : Phase) (f : Frame) : State :=
  { s with
    transaction := some { t with phase := phase }
    engine :=
      { s.engine with
        phase := .sending, de := true, exchange := some f, receiving := none, interval := 0
        cutAcross := s.engine.cutAcross || s.engine.receiving.isSome } }

/-- The entry `e` of the directory has become `e'`, with a STATION_STATE notice to its subscribers in
port order where its state changed, and nothing else has changed (R18). -/
def State.entryBecomes (s : State) (e e' : StationEntry) : State :=
  let t := { s with directory := tablePut StationEntry.address e' s.directory }
  if e'.state = e.state then t
  else
    t.offerEach (e.subscribers.map Subscription.port)
      (.stationState e.address e.state (.entry e'.state) e'.miss)

/-- The notice stands at the end of the port's queue in the place of one unit, and nothing else has
changed (R141). -/
def State.converted (s : State) (p : Port) (x : Notice) : State :=
  { s with
    queues :=
      s.queues.set p
        { s.queues.get p with
          notices := (s.queues.get p).notices ++ [x]
          reserved := (s.queues.get p).reserved - 1
          attn := true } }

/-- The engine in GAP after an exchange (R106, R115). -/
def Engine.inGap (e : Engine) : Engine :=
  { e with
    phase := .gap, de := false, exchange := none, windowOpen := false, strays := false
    assembly := [], interval := e.active.interFrameGap }

end Sys2Proof.Machine
end

