-- ==== Sys2Proof/WellFormed.lean ====
section
/-! DEFINITION. Which commands can reach the part: the operands that the manual's framing admits. -/

namespace Sys2Proof

/-- The operands of a command are ones that can come about: a body of at most 40 bytes (R153), a
bad packet that is complete and bad (R154), a code that is no command (R155), the bytes of an
incomplete packet with at least one whole byte (R157), a claim target in 0-126 (R22), samples
whose start bit is accepted (R105). -/
def Instr.wellFormed : Instr → Bool
  | .attach _ b | .detach _ b | .portStatus _ b | .nextEvent _ b | .enroll _ b | .dismiss _ b
  | .setStation _ b | .subscribe _ b | .unsubscribe _ b | .stationStatus _ b | .claim _ b
  | .renew _ b | .release _ b | .claimStatus _ b | .submit _ b | .cancel _ b | .lineStart _ b
  | .lineHalt _ b | .lineCut _ b | .setPoll _ b | .lineStatus _ b | .setLine _ b =>
    b.length ≤ maxBody
  | .badPacket _ bytes => packetWhole bytes && packetBad bytes
  | .badCommand _ code b => !isCommandCode code && b.length ≤ maxBody
  | .fragment _ bytes => !bytes.isEmpty && !packetComplete bytes
  | .claimExpiry t => t ≤ 126
  | .characterInListening c | .characterInReceiving c | .unsolicitedCharacter c =>
    !c.start.majority
  | .acceptedStartBit b => !b.majority
  | .timebaseTick | .lapse _ | .deviceReset | .lastStopBitEnd | .turnaroundEnd | .replyWindowEnd
  | .characterGapLimit | .interFrameGapEnd | .deviceResetEnds | .selectFalls _ | .selectRises _ =>
    true

end Sys2Proof
end

