-- ==== Sys2Proof/Certificates/Slice0/Obligations.lean ====
section
/-! DEFINITION. The statements about the LQ4 for the provers. A statement that rests on a choice of the
model and not on a rule names its log entry in its docstring. -/

section

open Sys2Proof Sys2Proof.Machine

/-! ### The step and device reset -/

/-- A step takes the command at the front of the queue and runs it with the queue's rest. -/
def Obligations.StepTakesFrontCommand : Prop :=
  ∀ (c : Instr) (rest : List Instr) (s : State), s.pending = c :: rest →
    step s = exec c { s with pending := rest }

/-- Every command completes on every state: the part never stops. The manual names no happening that
stops it. That a happening changes nothing in a state in which it cannot come about, in place of
stopping, is the model's choice (log entry 7). -/
def Obligations.EveryCommandCompletes : Prop :=
  ∀ (c : Instr) (s : State), ∃ t, exec c s = .next t

/-- The state after device reset: every value that Tables 4-1, 6-1 and 9-1 and R1, R22, R39, R43,
R80, R106, R121, R123 and R137 give. -/
def Obligations.ResetValues : Prop :=
  (∀ p, State.reset.records.get p =
      { session := .detached, number := 0, lapseTime := 0, timer := none, cause := .none
        fragments := 0 } ∧
    State.reset.queues.get p = { notices := [], reserved := 0, missed := 0, attn := false } ∧
    State.reset.lists.get p = []) ∧
  State.reset.directory = [] ∧ State.reset.claims = [] ∧
  State.reset.slots = List.replicate 32 .free ∧
  State.reset.scheduler =
    { line := .stopped, mode := .off, requester := none, cursor := 0, visits := 0, credit := 0
      pointer := .d, busy := .none } ∧
  State.reset.transaction = none ∧
  State.reset.engine.phase = .idle ∧ State.reset.engine.de = false ∧
  State.reset.engine.active =
    { rateCode := 4, turnaround := 4, replyWindow := 330, charGapLimit := 22
      interFrameGap := 33, retryBudget := 2, offlineThreshold := 4, pollShare := 4 } ∧
  State.reset.engine.staged = none ∧
  State.reset.engine.counters =
    { framesSent := 0, repliesValid := 0, repliesBad := 0, strayHeads := 0, unsolicited := 0
      cuts := 0 } ∧
  State.reset.buffers = List.replicate 16 none ∧
  ∀ n, State.reset.txd n = true

/-- The state after device reset is sound. -/
def Obligations.ResetIsSound : Prop :=
  State.reset.Sound ∧ State.reset.TablesOk ∧ State.reset.AccountsOk ∧ State.reset.StoreOk

/-- DEVICE_RESET puts every block in its reset state from any state; select lines stay where they
are, and a window that is open is not examined any more. DEVICE_RESET_ENDS raises RESET_n and
changes nothing else. That the queue of commands and the count of free choices stay (log entries 5
and 13), that the count of ticks starts again at 0 (log entry 2), and that no start bit, no
character cut across and no tick in progress is remembered over a device reset (log entries 3 and
11), are the model's choices. -/
def Obligations.DeviceResetRestoresEveryBlock : Prop :=
  (∀ s : State,
    exec .deviceReset s =
      .next
        { State.reset with
          resetLow := true
          windows := s.windows.map (fun w => if w = .closed then .closed else .ignored)
          picks := s.picks
          pending := s.pending }) ∧
  ∀ s : State, exec .deviceResetEnds s = .next { s with resetLow := false }

/-! ### Host ports and sessions -/

/-- SELECT_FALLS opens a window, examined unless RESET_n is low; SELECT_RISES closes it in any phase
with no other effect; FRAGMENT closes a window whose packet is not complete and counts the fragment,
saturating at 65535. -/
def Obligations.SelectFramesTheExchange : Prop :=
  (∀ (p : Port) (s : State), s.windows.get p = .closed →
    exec (.selectFalls p) s =
      .next
        { s with windows := s.windows.set p (if s.resetLow then .ignored else .receiving) }) ∧
  (∀ (p : Port) (s : State),
    exec (.selectRises p) s = .next { s with windows := s.windows.set p .closed }) ∧
  ∀ (p : Port) (bytes : List Byte) (s : State), s.Receives p → bytes ≠ [] →
    packetComplete bytes = false →
    exec (.fragment p bytes) s =
      .next
        { s with
          records :=
            s.records.set p
              { s.records.get p with fragments := min 65535 ((s.records.get p).fragments + 1) }
          windows := s.windows.set p .closed }

/-- A complete packet whose length byte exceeds 40, or whose bytes do not sum to 0, is answered
BAD_PACKET and changes nothing else, the lapse timer included; a valid packet whose code is no
command is answered BAD_COMMAND, attached or not, and restarts the lapse timer of an attached port.
Bytes that complete a packet while no window of the port is receiving one change nothing: select is
high, the window is not examined, or its one packet was taken already. What a tick in progress
leaves out once the packet has restarted the lapse timer is the model's choice (log entry 3). -/
def Obligations.RefusedPacketsHaveNoEffect : Prop :=
  (∀ (p : Port) (code len : Byte) (s : State), s.Receives p → 40 < len.toNat →
    exec (.badPacket p [code, len]) s = .next (s.answer p .badPacket [])) ∧
  (∀ (p : Port) (code check : Byte) (body : List Byte) (s : State), s.Receives p →
    body.length ≤ 40 →
    (code :: byteOf body.length :: (body ++ [check])).foldl (· + ·) 0#8 ≠ 0#8 →
    exec (.badPacket p (code :: byteOf body.length :: (body ++ [check]))) s =
      .next (s.answer p .badPacket [])) ∧
  (∀ (p : Port) (code : Byte) (body : List Byte) (s : State), s.Receives p →
    isCommandCode code = false →
    exec (.badCommand p code body) s = .next ((s.heard p).answer p .badCommand [])) ∧
  (∀ (i : Instr) (p : Port) (code : Byte) (body : List Byte) (s : State),
    i.packetParts = some (p, code, body) → s.windows.get p ≠ .receiving → exec i s = .next s) ∧
  ∀ (p : Port) (bytes : List Byte) (s : State), s.windows.get p ≠ .receiving →
    exec (.badPacket p bytes) s = .next s

/-- On a detached port every command but ATTACH and PORT_STATUS is refused NOT_ATTACHED, whatever
its body, and changes nothing else. -/
def Obligations.DetachedPortsAreRefused : Prop :=
  ∀ (i : Instr) (p : Port) (code : Byte) (body : List Byte) (s : State),
    i.wellFormed = true → i.packetParts = some (p, code, body) → isCommandCode code = true →
    code ≠ 0x01#8 → code ≠ 0x03#8 → s.Receives p → s.isAttached p = false →
    exec i s = .next (s.answer p .notAttached [])

/-- ATTACH: ALREADY_ATTACHED, then BAD_ARGUMENT, then the session opens, its lapse timer counting
from the tick after (R159, R162). The session that opens finds its queue empty and owns nothing, in
a state whose accounts are sound. That a tick may have begun before its TIMEBASE_TICK, which then
leaves the port out, is the model's choice (log entry 3). What a tick in progress leaves out once
the packet has restarted the lapse timer is the model's choice (log entry 3). -/
def Obligations.AttachOpensASession : Prop :=
  (∀ (p : Port) (h l : Byte) (s : State), s.Receives p → (s.records.get p).number ≤ 255 →
    exec (.attach p [h, l]) s =
      .next
        (if s.isAttached p = true then (s.heard p).answer p .alreadyAttached []
        else if h.toNat * 256 + l.toNat ≠ 0 ∧
            (h.toNat * 256 + l.toNat < 50 ∨ 60000 < h.toNat * 256 + l.toNat) then
          s.answer p .badArgument []
        else
          ({ s with
            records :=
              s.records.set p
                { s.records.get p with
                  session := .attached
                  number :=
                    if (s.records.get p).number = 255 then 1 else (s.records.get p).number + 1
                  lapseTime := h.toNat * 256 + l.toNat
                  timer :=
                    if h.toNat * 256 + l.toNat = 0 then none
                    else some (h.toNat * 256 + l.toNat) }
            ticked := s.timerNoted p }).answer p .ok
            [byteOf
                (if (s.records.get p).number = 255 then 1 else (s.records.get p).number + 1),
              0x01#8])) ∧
  (∀ (p : Port) (body : List Byte) (s : State), s.Receives p → body.length ≠ 2 →
    exec (.attach p body) s =
      .next
        (if s.isAttached p = true then (s.heard p).answer p .alreadyAttached []
        else s.answer p .badArgument [])) ∧
  ∀ (p : Port) (s : State), s.AccountsOk → s.isAttached p = false →
    s.queues.get p = { notices := [], reserved := 0, missed := 0, attn := false } ∧
    s.slotsOwned p = 0 ∧ s.claimsHeld p = 0 ∧ s.claimsWaited p = 0 ∧
    (∀ e ∈ s.directory, ∀ x ∈ e.subscribers, x.port ≠ p) ∧ s.scheduler.requester ≠ some p

/-- TIMEBASE_TICK: every claim's remaining time and every running lapse timer falls by 1, and
nothing else changes where none reaches 0. A record that reaches 0 expires in the tick, and a timer
that reaches 0 tears its port down in the tick with cause LAPSE; the equations give the tick that
brings one of them to 0, and after every tick none stands at 0. The count of ticks, and leaving out
the records and ports that CLAIM_EXPIRY and LAPSE took ahead of this row and those whose time was set
in the tick so begun, are the model's (log entries 2 and 3). -/
def Obligations.TickCountsDown : Prop :=
  (∀ s : State, s.resetLow = false →
    ∀ fall : Port → PortRecord → PortRecord,
      (fall = fun p r =>
        if p ∈ s.ticked.ports then r else { r with timer := r.timer.map (fun n => n - 1) }) →
    ∀ counted, counted =
      { s with
        timebase := s.timebase + 1
        ticked := ⟨[], []⟩
        claims :=
          s.claims.map (fun c =>
            if c.target ∈ s.ticked.claims then c else { c with remaining := c.remaining - 1 })
        records :=
          ⟨fall .a s.records.a, fall .b s.records.b, fall .c s.records.c,
            fall .d s.records.d⟩ } →
    ((∀ c ∈ counted.claims, c.remaining ≠ 0) →
      (∀ p, counted.isAttached p = true → (counted.records.get p).timer ≠ some 0) →
      exec .timebaseTick s = .next counted) ∧
    (∀ c, counted.claims.filter (fun x => decide (x.remaining = 0)) = [c] →
      counted.claim? c.target = some c → counted.isAttached c.holder = true →
      (∀ p, counted.isAttached p = true → (counted.records.get p).timer ≠ some 0) →
      exec .timebaseTick s =
        .next ((counted.converted c.holder (.claimExpired c.target)).holderLeaves c.target)) ∧
    ∀ p, (∀ c ∈ counted.claims, c.remaining ≠ 0) → counted.isAttached p = true →
      (counted.records.get p).timer = some 0 →
      (∀ q, q ≠ p → counted.isAttached q = true → (counted.records.get q).timer ≠ some 0) →
      exec .timebaseTick s = .next (counted.tearDown p .lapse)) ∧
  ∀ s t : State, s.resetLow = false → s.ClaimsOk → s.RecordsOk →
    exec .timebaseTick s = .next t →
    (∀ c ∈ t.claims, 1 ≤ c.remaining) ∧ ∀ p, ∀ n ∈ (t.records.get p).timer, 1 ≤ n

/-- DETACH on an attached port applies the teardown with cause DETACH and is answered OK; LAPSE, at
a lapse timer in its last millisecond that the tick reaches, applies it with cause LAPSE. That LAPSE
may come ahead of the row TIMEBASE_TICK that ends its tick, and is noted for it, is the model's
choice (log entry 3). What a tick in progress leaves out once the packet has restarted the lapse
timer is the model's choice (log entry 3). -/
def Obligations.SessionsEndInTeardown : Prop :=
  (∀ (p : Port) (s : State), s.Ready p →
    exec (.detach p []) s = .next (((s.heard p).tearDown p .detach).answer p .ok [])) ∧
  (∀ (p : Port) (body : List Byte) (s : State), s.Ready p → body ≠ [] →
    exec (.detach p body) s = .next ((s.heard p).answer p .badArgument [])) ∧
  ∀ (p : Port) (s : State), s.isAttached p = true → (s.records.get p).timer = some 1 →
    p ∉ s.ticked.ports →
    exec (.lapse p) s =
      .next
        (({ s with ticked := { s.ticked with ports := p :: s.ticked.ports } }).tearDown p .lapse)

/-- What the teardown of a port leaves: its record keeps the session number, lapse time and fragment
count; its queue is flushed; it owns no slot, holds and waits for no claim, subscribes to nothing and
is not the ONCE requester. Each claim it held is handed to its first waiter with the whole of its
duration, which a tick in progress does not count, or freed; every other record loses the port's waiter
entry alone; and every entry of the directory loses the port's subscription record alone. Every REPORT
notice of its queue drops one reference of its buffer, which is free when none is left; other ports'
records, all windows and the line state stay; and where the line is not free nothing on the line
changes, the port's ACTIVE slot becoming ORPHANED, and the other ports' queues change by the
CLAIM_GRANTED notices of the claims handed to them alone. That a tick has begun before its
TIMEBASE_TICK, and what it leaves out, is the model's choice (log entry 3) (R21, R23, R37, R38, R58,
R78, R133, R149, R164). -/
def Obligations.TeardownDropsEverything : Prop :=
  ∀ (p : Port) (cause : TeardownCause) (s : State), s.ClaimsOk →
    (s.tearDown p cause).records.get p =
      { s.records.get p with session := .detached, timer := none, cause := cause } ∧
    (s.tearDown p cause).queues.get p =
      { notices := [], reserved := 0, missed := 0, attn := false } ∧
    (s.tearDown p cause).lists.get p = [] ∧
    (∀ x ∈ (s.tearDown p cause).slots, x.owner? ≠ some p) ∧
    (∀ c ∈ (s.tearDown p cause).claims, c.holder ≠ p ∧ ∀ w ∈ c.waiters, w.port ≠ p) ∧
    (s.tearDown p cause).claims =
      s.claims.filterMap (fun c =>
        if c.holder = p then
          match c.waiters with
          | [] => none
          | w :: rest =>
            some { c with holder := w.port, remaining := w.duration, waiters := rest }
        else some { c with waiters := c.waiters.filter (fun w => decide (w.port ≠ p)) }) ∧
    (s.ticked = ⟨[], []⟩ → (s.tearDown p cause).ticked = ⟨[], []⟩) ∧
    (s.ticked ≠ ⟨[], []⟩ → ∀ t, t ∈ (s.tearDown p cause).ticked.claims ↔
      t ∈ s.ticked.claims ∨
        ∃ c ∈ s.claims, c.target = t ∧ c.holder = p ∧ c.waiters ≠ []) ∧
    (s.tearDown p cause).ticked.ports = s.ticked.ports ∧
    (s.tearDown p cause).directory =
      s.directory.map (fun e =>
        { e with subscribers := e.subscribers.filter (fun x => decide (x.port ≠ p)) }) ∧
    (s.tearDown p cause).scheduler.requester ≠ some p ∧
    (∀ q, q ≠ p → (s.tearDown p cause).records.get q = s.records.get q) ∧
    (s.tearDown p cause).windows = s.windows ∧
    (s.tearDown p cause).scheduler.line = s.scheduler.line ∧
    (∀ i, ∀ n, n = (s.queues.get p).notices.countP (Notice.refersTo i) →
      (s.tearDown p cause).buffers.getD i none =
        match s.buffers.getD i none with
        | none => none
        | some b =>
          if n = 0 then some b
          else if b.refs ≤ n then none else some { b with refs := b.refs - n }) ∧
    (s.lineFree = false →
      (s.tearDown p cause).slots =
        s.slots.map (fun x =>
          match x with
          | .pending q r => if q = p then .free else .pending q r
          | .active q r =>
            if q = p then .orphaned { r with cancelRequested := false } else .active q r
          | .free => .free
          | .orphaned r => .orphaned r) ∧
      (s.tearDown p cause).transaction = s.transaction ∧
      (s.tearDown p cause).engine = s.engine ∧
      (s.tearDown p cause).scheduler =
        { s.scheduler with
          requester :=
            if s.scheduler.requester = some p then none else s.scheduler.requester } ∧
      (s.OwnersAttached → ∀ q, q ≠ p → ∃ new : List Notice,
        new.Perm
          (s.claims.filterMap (fun c =>
            match c.waiters with
            | w :: _ =>
              if c.holder = p ∧ w.port = q then some (.claimGranted c.target w.duration) else none
            | [] => none)) ∧
        (s.tearDown p cause).queues.get q =
          { s.queues.get q with
            notices := (s.queues.get q).notices ++ new
            reserved := (s.queues.get q).reserved - new.length
            attn := (s.queues.get q).attn || !new.isEmpty }))

/-- PORT_STATUS, attached or detached, answers its thirteen bytes and changes nothing but the lapse
timer that any valid packet restarts. The session states and teardown causes have the codes of Table
10-1. What a tick in progress leaves out once the packet has restarted the lapse timer is the
model's choice (log entry 3). -/
def Obligations.PortStatusReadsOnly : Prop :=
  (∀ (p : Port) (s : State), s.Receives p →
    exec (.portStatus p []) s =
      .next
        ((s.heard p).answer p .ok
          [(s.records.get p).session.code, byteOf (s.records.get p).number,
            byteOf ((s.records.get p).lapseTime / 256), byteOf (s.records.get p).lapseTime,
            (s.records.get p).cause.code, byteOf ((s.records.get p).fragments / 256),
            byteOf (s.records.get p).fragments, byteOf (s.queues.get p).notices.length,
            byteOf (s.queues.get p).reserved, byteOf (s.slotsOwned p), byteOf (s.claimsHeld p),
            byteOf (s.claimsWaited p), byteOf (s.queues.get p).missed])) ∧
  (∀ (p : Port) (body : List Byte) (s : State), s.Receives p → body ≠ [] →
    exec (.portStatus p body) s = .next ((s.heard p).answer p .badArgument [])) ∧
  (∀ n : Nat, (byteOf n).toNat = n % 256) ∧
  [SessionState.detached, .attached].map SessionState.code = [0, 1] ∧
  [TeardownCause.none, .detach, .lapse].map TeardownCause.code = [0, 1, 2]

/-! ### Event queues -/

/-- NEXT_EVENT on a queue that holds a notice: the oldest is returned with the missed count as it
stood and the count of those left; it is removed, the missed count becomes 0, ATTN is released with
the last notice, and a REPORT drops one reference of its buffer, which is free when none is left. On
an empty queue kind NONE is answered with the missed count as it stood and 0 left, the missed count
is cleared and the reservations stay. The kind codes, the contents of each kind and the codes of
their fields are those of Tables 10-1 and 10-5 (R132, R145, R146, R167 to R169). What a tick in
progress leaves out once the packet has restarted the lapse timer is the model's choice (log entry
3). -/
def Obligations.NextEventTakesTheOldest : Prop :=
  (∀ (p : Port) (x : Notice) (rest : List Notice) (s : State), s.Ready p →
    (s.queues.get p).notices = x :: rest →
    exec (.nextEvent p []) s =
      .next
        (({ s.heard p with
          queues :=
            s.queues.set p
              { s.queues.get p with notices := rest, missed := 0, attn := !rest.isEmpty }
          buffers :=
            match x with
            | .report r =>
              s.buffers.set r.buffer
                (match s.buffers.getD r.buffer none with
                | some b => if b.refs ≤ 1 then none else some { b with refs := b.refs - 1 }
                | none => none)
            | _ => s.buffers }).answer p .ok
          ([x.kindCode, byteOf (s.queues.get p).missed, byteOf rest.length] ++
            x.contents
              (match x with
              | .report r =>
                match s.buffers.getD r.buffer none with
                | some b => b.payload
                | none => []
              | _ => [])))) ∧
  (∀ (p : Port) (s : State), s.Ready p → (s.queues.get p).notices = [] →
    exec (.nextEvent p []) s =
      .next
        (({ s.heard p with
          queues := s.queues.set p { s.queues.get p with missed := 0, attn := false } }).answer p
            .ok [0x00#8, byteOf (s.queues.get p).missed, 0x00#8])) ∧
  (∀ (p : Port) (body : List Byte) (s : State), s.Ready p → body ≠ [] →
    exec (.nextEvent p body) s = .next ((s.heard p).answer p .badArgument [])) ∧
  (∀ (payload : List Byte) (c : Completion),
    (Notice.completion c).kindCode = 0x01#8 ∧
    (Notice.completion c).contents payload =
      [byteOf c.tag, byteOf c.slot, c.kind.code, byteOf c.station, c.status.code,
        byteOf c.attempts,
        (match c.nakReason with
        | some reason => byteOf reason
        | none => 0xFF#8),
        faultByte c.lastFault,
        (match c.stateAfter with
        | some state => state.code
        | none => 0xFF#8)] ++
      match c.replyPayload with
      | some bytes => byteOf bytes.length :: bytes
      | none => [0xFF#8]) ∧
  (∀ (payload : List Byte) (t d a miss visits : Nat) (r : ReportNotice) (old : StationState)
      (new : NewState) (line : LineState) (cause : LineCause),
    (Notice.claimGranted t d).kindCode = 0x02#8 ∧
    (Notice.claimGranted t d).contents payload = [byteOf t, byteOf (d / 256), byteOf d] ∧
    (Notice.claimExpired t).kindCode = 0x03#8 ∧
    (Notice.claimExpired t).contents payload = [byteOf t] ∧
    (Notice.report r).kindCode = 0x04#8 ∧
    (Notice.report r).contents payload =
      [byteOf r.station, byteOf r.buffer, byteOf r.length,
        byteOf ((if r.noise then 1 else 0) + if r.gap then 2 else 0)] ++ payload ∧
    (Notice.stationState a old new miss).kindCode = 0x05#8 ∧
    (Notice.stationState a old new miss).contents payload =
      [byteOf a, old.code,
        (match new with
        | .entry state => state.code
        | .removed => 0x04#8),
        byteOf miss] ∧
    (Notice.lineState line cause).kindCode = 0x06#8 ∧
    (Notice.lineState line cause).contents payload = [line.code, cause.code] ∧
    (Notice.sweepDone visits).kindCode = 0x07#8 ∧
    (Notice.sweepDone visits).contents payload = [byteOf visits]) ∧
  [RequestKind.send, .fetch, .probe, .broadcast].map RequestKind.code = [1, 2, 3, 4] ∧
  [StationState.unknown, .online, .suspect, .offline].map StationState.code = [0, 1, 2, 3] ∧
  [none, some .noReply, some .truncated, some .framing, some .check, some .format,
    some .strayOnly].map faultByte = [0, 1, 2, 3, 4, 5, 6] ∧
  [LineState.stopped, .running, .draining].map LineState.code = [0, 1, 2] ∧
  [LineCause.start, .halt, .cut].map LineCause.code = [0, 1, 2] ∧
  [CompletionStatus.ok, .refused, .noReply, .badReply, .replyTooLong, .stationOffline, .cancelled,
    .cut].map CompletionStatus.code = [0x00, 0x50, 0x51, 0x52, 0x53, 0x54, 0x55, 0x56]

/-! ### The Station Directory -/

/-- A directory command that names an existing station checks its address first: outside 1-126 it is
refused BAD_ARGUMENT, and without an entry UNKNOWN_STATION, with the directory unchanged (R2). A
body of the wrong length is refused BAD_ARGUMENT at the same test by those that take the address
alone (R155, R167). What a tick in progress leaves out once the packet has restarted the lapse timer
is the model's choice (log entry 3). -/
def Obligations.DirectoryChecksTheAddress : Prop :=
  (∀ (p : Port) (x v : Byte) (s : State) (i : Instr), s.Ready p →
    i ∈ [.dismiss p [x], .setStation p [x, v], .subscribe p [x], .unsubscribe p [x],
      .stationStatus p [x]] →
    (x.toNat = 0 ∨ 126 < x.toNat →
      exec i s = .next ((s.heard p).answer p .badArgument [])) ∧
    (1 ≤ x.toNat → x.toNat ≤ 126 → (∀ e ∈ s.directory, e.address ≠ x.toNat) →
      exec i s = .next ((s.heard p).answer p .unknownStation []))) ∧
  ∀ (p : Port) (body : List Byte) (s : State) (i : Instr), s.Ready p → body.length ≠ 1 →
    i ∈ [.dismiss p body, .subscribe p body, .unsubscribe p body, .stationStatus p body] →
    exec i s = .next ((s.heard p).answer p .badArgument [])

/-- ENROLL: BAD_ARGUMENT, then ALREADY_ENROLLED, then DIRECTORY_FULL, then an entry with the values
of Table 1-1 and no notice; a station enrolled with poll enabled makes a selection where the line is
free (R3, R66). What a tick in progress leaves out once the packet has restarted the lapse timer is
the model's choice (log entry 3). -/
def Obligations.EnrollCreatesAnEntry : Prop :=
  (∀ (p : Port) (x v : Byte) (s : State), s.Ready p →
    exec (.enroll p [x, v]) s =
      .next
        (if x.toNat = 0 ∨ 126 < x.toNat ∨ 1 < v.toNat then
          (s.heard p).answer p .badArgument []
        else if ∃ e ∈ s.directory, e.address = x.toNat then
          (s.heard p).answer p .alreadyEnrolled []
        else if 64 ≤ s.directory.length then (s.heard p).answer p .directoryFull []
        else
          State.answer
            (let t : State :=
              { s.heard p with
                directory :=
                  tablePut StationEntry.address
                    { address := x.toNat, state := .unknown, miss := 0, synchronised := false
                      sendBit := false, reportBit := false, pollEnabled := decide (v.toNat = 1)
                      subscribers := [], exchangesOk := 0, totalMisses := 0, noisyFrames := 0
                      lostReports := 0, deferredReports := 0 }
                    s.directory }
            if v.toNat = 1 then t.select else t)
            p .ok [])) ∧
  ∀ (p : Port) (body : List Byte) (s : State), s.Ready p → body.length ≠ 2 →
    exec (.enroll p body) s = .next ((s.heard p).answer p .badArgument [])

/-- SET_STATION sets poll enabled and changes no other field; a value that is neither yes nor no is
refused BAD_ARGUMENT; yes makes a selection where the line is free (R4, R66). That it does so where
poll enabled was yes already is the model's reading of R66 (log entry 14), and that a body of the
wrong length is refused before UNKNOWN_STATION is the model's choice (log entry 15). What a tick in
progress leaves out once the packet has restarted the lapse timer is the model's choice (log entry
3). -/
def Obligations.SetStationSetsPolling : Prop :=
  (∀ (p : Port) (x v : Byte) (e : StationEntry) (s : State), s.Ready p →
    1 ≤ x.toNat → x.toNat ≤ 126 → s.station? x.toNat = some e →
    exec (.setStation p [x, v]) s =
      .next
        (if 1 < v.toNat then (s.heard p).answer p .badArgument []
        else
          State.answer
            (let t : State :=
              { s.heard p with
                directory :=
                  tablePut StationEntry.address
                    { e with pollEnabled := decide (v.toNat = 1) } s.directory }
            if v.toNat = 1 then t.select else t)
            p .ok [])) ∧
  ∀ (p : Port) (body : List Byte) (s : State), s.Ready p → body.length ≠ 2 →
    exec (.setStation p body) s = .next ((s.heard p).answer p .badArgument [])

/-- DISMISS is refused IN_USE while a slot that is not FREE, a claim record or the transaction in
progress names the station; otherwise each subscriber is offered STATION_STATE with REMOVED, and
then the entry goes (R5, R6, R103). What a tick in progress leaves out once the packet has restarted
the lapse timer is the model's choice (log entry 3). -/
def Obligations.DismissRemovesAnEntry : Prop :=
  ∀ (p : Port) (x : Byte) (e : StationEntry) (s : State), s.Ready p →
    1 ≤ x.toNat → x.toNat ≤ 126 → s.station? x.toNat = some e →
    exec (.dismiss p [x]) s =
      .next
        (if (∃ y ∈ s.slots, ∃ r ∈ y.request?, r.kind ≠ RequestKind.broadcast ∧ r.station = x.toNat) ∨
            (∃ c ∈ s.claims, c.target = x.toNat) ∨
            (∃ t ∈ s.transaction, t.station = x.toNat) then
          (s.heard p).answer p .inUse []
        else
          ({ s.heard p with
            directory := s.directory.filter (fun e' => decide (e'.address ≠ x.toNat))
            queues :=
              (s.offerEach (e.subscribers.map Subscription.port)
                (.stationState x.toNat e.state .removed e.miss)).queues }).answer p .ok [])

/-- SUBSCRIBE puts a record of the caller with a clear gap flag at its port-order place, and a
record that stands is unchanged; UNSUBSCRIBE removes the caller's record with its gap flag, and is
answered OK without one too. Neither changes a notice in any queue (R7, R8). What a tick in progress
leaves out once the packet has restarted the lapse timer is the model's choice (log entry 3). -/
def Obligations.SubscriptionsFollowTheirCommands : Prop :=
  (∀ (p : Port) (x : Byte) (e : StationEntry) (s : State), s.Ready p → s.DirectoryOk →
    s.station? x.toNat = some e →
    exec (.subscribe p [x]) s =
      .next
        (({ s.heard p with
          directory :=
            tablePut StationEntry.address
              { e with
                subscribers :=
                  if ∃ y ∈ e.subscribers, y.port = p then e.subscribers
                  else
                    [Port.a, Port.b, Port.c, Port.d].filterMap (fun q =>
                      if q = p then some { port := p, gap := false }
                      else e.subscribers.find? (fun y => decide (y.port = q))) }
              s.directory }).answer p .ok [])) ∧
  ∀ (p : Port) (x : Byte) (e : StationEntry) (s : State), s.Ready p → s.DirectoryOk →
    s.station? x.toNat = some e →
    exec (.unsubscribe p [x]) s =
      .next
        (({ s.heard p with
          directory :=
            tablePut StationEntry.address
              { e with subscribers := e.subscribers.filter (fun y => decide (y.port ≠ p)) }
              s.directory }).answer p .ok [])

/-- STATION_STATUS answers the fields of the entry in the order of R19 and changes nothing but the
lapse timer that any valid packet restarts. A yes and a set flag are carried as 1, a no and a clear
one as 0, and ports as R167 gives them. What a tick in progress leaves out once the packet has
restarted the lapse timer is the model's choice (log entry 3). -/
def Obligations.StationStatusReadsOnly : Prop :=
  flagByte false = 0x00#8 ∧ flagByte true = 0x01#8 ∧
  [Port.a, .b, .c, .d].map portByte = [0, 1, 2, 3] ∧
  ∀ (p : Port) (x : Byte) (e : StationEntry) (s : State), s.Ready p →
    1 ≤ x.toNat → x.toNat ≤ 126 → s.station? x.toNat = some e →
    exec (.stationStatus p [x]) s =
      .next
        ((s.heard p).answer p .ok
          ([byteOf e.address, e.state.code, byteOf e.miss, flagByte e.synchronised,
              flagByte e.sendBit, flagByte e.reportBit, flagByte e.pollEnabled,
              byteOf e.subscribers.length] ++
            e.subscribers.flatMap (fun y => [portByte y.port, flagByte y.gap]) ++
            wordOf e.exchangesOk ++ wordOf e.totalMisses ++ wordOf e.noisyFrames ++
            wordOf e.lostReports ++ wordOf e.deferredReports))

/-- The three outcome reports at an entry: a valid reply, a successful probe, a failed attempt; each
with the STATION_STATE notice of a change of state and no other effect (R12 to R16, R18). -/
def Obligations.OutcomeReportsAtTheEntry : Prop :=
  ∀ (s : State) (a : Nat) (e : StationEntry), s.station? a = some e →
    (∀ noise advance : Bool,
      s.applyReport a (.validReply noise advance) =
        s.entryBecomes e
          { e with
            miss := 0, state := .online, exchangesOk := (e.exchangesOk + 1) % 65536
            noisyFrames := if noise then min 65535 (e.noisyFrames + 1) else e.noisyFrames
            sendBit := xor e.sendBit advance }) ∧
    (∀ noise : Bool,
      s.applyReport a (.successfulProbe noise) =
        s.entryBecomes e
          { e with
            miss := 0, state := .online, exchangesOk := (e.exchangesOk + 1) % 65536
            noisyFrames := if noise then min 65535 (e.noisyFrames + 1) else e.noisyFrames
            synchronised := true, sendBit := false, reportBit := false }) ∧
    s.applyReport a .failedAttempt =
      s.entryBecomes e
        (if s.engine.active.offlineThreshold ≤ min 15 (e.miss + 1) then
          { e with
            miss := min 15 (e.miss + 1), totalMisses := min 65535 (e.totalMisses + 1)
            state := .offline, synchronised := false }
        else
          { e with
            miss := min 15 (e.miss + 1), totalMisses := min 65535 (e.totalMisses + 1)
            state :=
              if e.state = .unknown ∨ e.state = .online then .suspect else e.state })

/-! ### Claims -/

/-- CLAIM: the checks of R24 in their order, then the decision of R25 on a target without a record
or of R26 on one that another port holds; a time granted counts from the next tick (R23). That a
tick may have begun before its TIMEBASE_TICK, which then leaves the record out, is the model's
choice (log entry 3). What a tick in progress leaves out once the packet has restarted the lapse
timer is the model's choice (log entry 3). -/
def Obligations.ClaimIsDecided : Prop :=
  (∀ (p : Port) (t h l w : Byte) (s : State), s.Ready p →
    exec (.claim p [t, h, l, w]) s =
      .next
        (if 126 < t.toNat ∨ h.toNat * 256 + l.toNat < 1 ∨ 60000 < h.toNat * 256 + l.toNat ∨
            1 < w.toNat then
          (s.heard p).answer p .badArgument []
        else if t.toNat ≠ 0 ∧ ∀ e ∈ s.directory, e.address ≠ t.toNat then
          (s.heard p).answer p .unknownStation []
        else
          match s.claim? t.toNat with
          | none =>
            if 16 ≤ s.claims.length then (s.heard p).answer p .claimTableFull []
            else if 16 < (s.queues.get p).notices.length + (s.queues.get p).reserved + 1 then
              (s.heard p).answer p .noRoom []
            else
              ({ s.heard p with
                claims :=
                  tablePut ClaimRecord.target
                    { target := t.toNat, holder := p, remaining := h.toNat * 256 + l.toNat
                      waiters := [] }
                    s.claims
                ticked := (s.heard p).claimNoted t.toNat
                queues :=
                  s.queues.set p
                    { s.queues.get p with reserved := (s.queues.get p).reserved + 1 } }).answer p
                  .ok []
          | some c =>
            if c.holder = p then (s.heard p).answer p .alreadyHeld []
            else if ∃ y ∈ c.waiters, y.port = p then (s.heard p).answer p .alreadyWaiting []
            else if w.toNat = 0 ∨ 3 ≤ c.waiters.length then (s.heard p).answer p .claimed []
            else if 16 < (s.queues.get p).notices.length + (s.queues.get p).reserved + 2 then
              (s.heard p).answer p .noRoom []
            else
              ({ s.heard p with
                claims :=
                  tablePut ClaimRecord.target
                    { c with
                      waiters :=
                        c.waiters ++ [Waiter.mk p (h.toNat * 256 + l.toNat)] }
                    s.claims
                queues :=
                  s.queues.set p
                    { s.queues.get p with reserved := (s.queues.get p).reserved + 2 } }).answer p
                  .queued [byteOf (c.waiters.length + 1)])) ∧
  ∀ (p : Port) (body : List Byte) (s : State), s.Ready p → body.length ≠ 4 →
    exec (.claim p body) s = .next ((s.heard p).answer p .badArgument [])

/-- RENEW: BAD_ARGUMENT, then NOT_HOLDER, then the remaining time of the caller's claim becomes the
duration and counts from the next tick; units, wait list and notices do not change (R23, R29). That
a tick may have begun before its TIMEBASE_TICK, and that a RENEW to 1 ms in the last millisecond
meets the coming tick, which it then begins and which brings no expiry (R34), as a free value has
it, are the model's choices (log entry 3). What a tick in progress leaves out once the packet has
restarted the lapse timer is the model's choice (log entry 3). -/
def Obligations.RenewSetsTheTime : Prop :=
  (∀ (p : Port) (t h l : Byte) (s : State), s.Ready p →
    exec (.renew p [t, h, l]) s =
      .next
        (if 126 < t.toNat ∨ h.toNat * 256 + l.toNat < 1 ∨ 60000 < h.toNat * 256 + l.toNat then
          (s.heard p).answer p .badArgument []
        else
          match s.claim? t.toNat with
          | none => (s.heard p).answer p .notHolder []
          | some c =>
            if c.holder = p then
              ({ s.heard p with
                claims :=
                  tablePut ClaimRecord.target { c with remaining := h.toNat * 256 + l.toNat }
                    s.claims
                ticked :=
                  if (s.heard p).ticked = Ticked.mk [] [] ∧ c.remaining ≤ 1 ∧
                      h.toNat * 256 + l.toNat = 1 ∧ Config.renewMeetsTick s.picks = true then
                    ⟨[t.toNat], []⟩
                  else (s.heard p).claimNoted t.toNat
                picks :=
                  if (s.heard p).ticked = Ticked.mk [] [] ∧ c.remaining ≤ 1 ∧
                      h.toNat * 256 + l.toNat = 1 then
                    s.picks + 1
                  else s.picks }).answer p .ok []
            else (s.heard p).answer p .notHolder [])) ∧
  ∀ (p : Port) (body : List Byte) (s : State), s.Ready p → body.length ≠ 3 →
    exec (.renew p body) s = .next ((s.heard p).answer p .badArgument [])

/-- RELEASE: BAD_ARGUMENT, then NOT_HOLDER, then the caller's held unit is freed with no notice and
the holder leaves (R30). What a tick in progress leaves out once the packet has restarted the lapse
timer is the model's choice (log entry 3). -/
def Obligations.ReleaseGivesUpTheClaim : Prop :=
  (∀ (p : Port) (t : Byte) (s : State), s.Ready p →
    exec (.release p [t]) s =
      .next
        (if 126 < t.toNat then (s.heard p).answer p .badArgument []
        else
          match s.claim? t.toNat with
          | none => (s.heard p).answer p .notHolder []
          | some c =>
            if c.holder = p then
              (({ s.heard p with
                queues :=
                  s.queues.set p
                    { s.queues.get p with
                      reserved := (s.queues.get p).reserved - 1 } }).holderLeaves
                  t.toNat).answer p .ok []
            else (s.heard p).answer p .notHolder [])) ∧
  ∀ (p : Port) (body : List Byte) (s : State), s.Ready p → body.length ≠ 1 →
    exec (.release p body) s = .next ((s.heard p).answer p .badArgument [])

/-- CLAIM_STATUS answers the holder, the remaining time and the waiters, or holder none, 0 and no
waiters, and changes nothing but the lapse timer that any valid packet restarts (R31). What a tick
in progress leaves out once the packet has restarted the lapse timer is the model's choice (log
entry 3). -/
def Obligations.ClaimStatusReadsOnly : Prop :=
  (∀ (p : Port) (t : Byte) (s : State), s.Ready p →
    exec (.claimStatus p [t]) s =
      .next
        (if 126 < t.toNat then (s.heard p).answer p .badArgument []
        else
          match s.claim? t.toNat with
          | none => (s.heard p).answer p .ok [0xFF#8, 0x00#8, 0x00#8, 0x00#8]
          | some c =>
            (s.heard p).answer p .ok
              ([portByte c.holder, byteOf (c.remaining / 256), byteOf c.remaining,
                  byteOf c.waiters.length] ++
                c.waiters.map (fun w => portByte w.port)))) ∧
  ∀ (p : Port) (body : List Byte) (s : State), s.Ready p → body.length ≠ 1 →
    exec (.claimStatus p body) s = .next ((s.heard p).answer p .badArgument [])

/-- When a holder leaves, the first waiter becomes holder with its requested duration and a
CLAIM_GRANTED notice, or the record is freed; then a selection is made where the line is free. At
CLAIM_EXPIRY, where the tick brings a record from 1 to 0, the holder's held unit converts into
CLAIM_EXPIRED first (R23, R32, R33). That CLAIM_EXPIRY may come ahead of the row TIMEBASE_TICK that
ends its tick, which then leaves out the records reached and handed on, is the model's choice (log
entry 3). -/
def Obligations.HoldersLeaveTheirClaims : Prop :=
  (∀ (t : Nat) (c : ClaimRecord) (s : State), s.claim? t = some c →
    (c.waiters = [] →
      s.holderLeaves t =
        ({ s with claims := s.claims.filter (fun x => decide (x.target ≠ t)) }).select) ∧
    ∀ (w : Waiter) (rest : List Waiter), c.waiters = w :: rest →
      s.isAttached w.port = true →
      s.holderLeaves t =
        (({ s with
          claims :=
            tablePut ClaimRecord.target
              { target := t, holder := w.port, remaining := w.duration, waiters := rest }
              s.claims
          ticked := s.claimNoted t }).converted w.port (.claimGranted t w.duration)).select) ∧
  ∀ (t : Nat) (c : ClaimRecord) (s : State), s.claim? t = some c → c.remaining = 1 →
    t ∉ s.ticked.claims → s.isAttached c.holder = true →
    exec (.claimExpiry t) s =
      .next
        ((({ s with ticked := { s.ticked with claims := t :: s.ticked.claims } }).converted
          c.holder (.claimExpired t)).holderLeaves t)

/-! ### Requests -/

/-- SUBMIT's arguments: the tests of R46, and the fields that the slot takes. -/
def Obligations.SubmitArgumentsAreTested : Prop :=
  (∀ (tag kind station urgent retry limit : Byte) (payload : List Byte),
    ((submitArgs (tag :: kind :: station :: urgent :: retry :: limit :: payload)).isSome = true ↔
      (1 ≤ kind.toNat ∧ kind.toNat ≤ 4) ∧ urgent.toNat ≤ 1 ∧
      (kind.toNat = 1 ∨ kind.toNat = 4 → 1 ≤ payload.length ∧ payload.length ≤ 32) ∧
      (kind.toNat = 2 → payload.length ≤ 8) ∧ (kind.toNat = 3 → payload.length = 0) ∧
      (kind.toNat = 4 → station.toNat = 0) ∧
      (kind.toNat ≠ 4 → 1 ≤ station.toNat ∧ station.toNat ≤ 126) ∧
      (retry.toNat = 255 ∨ retry.toNat ≤ 7) ∧ (kind.toNat = 2 → limit.toNat ≤ 32)) ∧
    ∀ r, submitArgs (tag :: kind :: station :: urgent :: retry :: limit :: payload) = some r →
      r.kind.code = kind ∧ r.tag = tag.toNat ∧ r.station = station.toNat ∧
      r.urgent = decide (urgent.toNat = 1) ∧
      r.retryBudget = (if retry.toNat = 255 then none else some retry.toNat) ∧
      r.replyLimit = (if kind.toNat = 2 then some limit.toNat else none) ∧
      r.payload = payload ∧ r.attempts = 0 ∧ r.cancelRequested = false ∧ r.lastFault = none ∧
      r.nakReason = none ∧ r.replyPayload = none) ∧
  ∀ body : List Byte, body.length < 6 → submitArgs body = none

/-- SUBMIT: the seven checks of R47 in their order; a request that passes them fills the lowest FREE
slot, takes its place in the caller's pending list and one unit of its queue, and is answered its
slot index; then a selection is made where the line is free (R44, R47, R48). What a tick in progress
leaves out once the packet has restarted the lapse timer is the model's choice (log entry 3). -/
def Obligations.SubmitFillsASlot : Prop :=
  ∀ (p : Port) (body : List Byte) (s : State), s.Receives p →
    exec (.submit p body) s =
      .next
        (if s.isAttached p = false then s.answer p .notAttached []
        else
          match submitArgs body with
          | none => (s.heard p).answer p .badArgument []
          | some r =>
            match s.tagged? p r.tag with
            | some i =>
              (s.heard p).answer p .duplicateTag
                [byteOf i,
                  match s.slots.getD i .free with
                  | .active _ _ => 0x02#8
                  | _ => 0x01#8]
            | none =>
              if r.kind ≠ RequestKind.broadcast ∧ ∀ e ∈ s.directory, e.address ≠ r.station then
                (s.heard p).answer p .unknownStation []
              else if 12 ≤ s.slotsOwned p then (s.heard p).answer p .quota []
              else if 16 < (s.queues.get p).notices.length + (s.queues.get p).reserved + 1 then
                (s.heard p).answer p .noRoom []
              else
                match (List.range s.slots.length).find?
                    (fun i => decide (s.slots.getD i .free = .free)) with
                | none => (s.heard p).answer p .tableFull []
                | some i =>
                  (({ s.heard p with
                    slots := s.slots.set i (.pending p r)
                    lists :=
                      s.lists.set p
                        (if r.urgent then
                          (s.lists.get p).takeWhile s.isUrgent ++
                            i :: (s.lists.get p).dropWhile s.isUrgent
                        else s.lists.get p ++ [i])
                    queues :=
                      s.queues.set p
                        { s.queues.get p with
                          reserved := (s.queues.get p).reserved + 1 } }).select).answer p .ok
                    [byteOf i])

/-- CANCEL: NOT_FOUND without a slot of the caller that carries the tag; a PENDING slot leaves its
list and ends CANCELLED with its COMPLETION; an ACTIVE slot has cancel requested set. The slot a tag
names is one that the caller owns and that carries the tag, and none is named exactly where the
caller owns no such slot (R42, R52 to R54). What a tick in progress leaves out once the packet has
restarted the lapse timer is the model's choice (log entry 3). -/
def Obligations.CancelEndsOrMarks : Prop :=
  (∀ (p : Port) (tag : Byte) (s : State), s.Ready p →
    exec (.cancel p [tag]) s =
      .next
        (match s.tagged? p tag.toNat with
        | none => (s.heard p).answer p .notFound []
        | some i =>
          match s.slots.getD i .free with
          | .pending _ r =>
            (({ s.heard p with
              lists := s.lists.set p ((s.lists.get p).filter (fun j => j != i))
              slots := s.slots.set i .free }).converted p
                (.completion
                  { tag := r.tag, slot := i, kind := r.kind, station := r.station
                    status := .cancelled, attempts := r.attempts, nakReason := none
                    lastFault := r.lastFault
                    stateAfter :=
                      if r.kind = RequestKind.broadcast then none
                      else (s.station? r.station).map StationEntry.state
                    replyPayload := none })).answer p .ok []
          | .active q r =>
            ({ s.heard p with
              slots := s.slots.set i (.active q { r with cancelRequested := true }) }).answer p
                .ok []
          | _ => (s.heard p).answer p .notFound [])) ∧
  (∀ (p : Port) (body : List Byte) (s : State), s.Ready p → body.length ≠ 1 →
    exec (.cancel p body) s = .next ((s.heard p).answer p .badArgument [])) ∧
  ∀ (s : State) (p : Port) (tag : Nat),
    (∀ i, s.tagged? p tag = some i →
      i < s.slots.length ∧ (s.slots.getD i .free).owner? = some p ∧
      ∃ r, (s.slots.getD i .free).request? = some r ∧ r.tag = tag) ∧
    (s.tagged? p tag = none ↔
      ∀ x ∈ s.slots, ∀ r, x.owner? = some p → x.request? = some r → r.tag ≠ tag)

/-- A request ends in one COMPLETION in its owner's queue, by converting its unit, and its slot
becomes FREE; an ORPHANED slot becomes FREE with no notice (R56, R57). -/
def Obligations.RequestsEndInOneCompletion : Prop :=
  ∀ (s : State) (i : Nat) (status : CompletionStatus),
    (∀ (p : Port) (r : Request),
      s.slots.getD i .free = .pending p r ∨ s.slots.getD i .free = .active p r →
      s.isAttached p = true →
      s.endRequest i status =
        ({ s with slots := s.slots.set i .free }).converted p
          (.completion
            { tag := r.tag, slot := i, kind := r.kind, station := r.station, status := status
              attempts := r.attempts
              nakReason := if status = CompletionStatus.refused then r.nakReason else none
              lastFault := r.lastFault
              stateAfter :=
                if r.kind = RequestKind.broadcast then none
                else (s.station? r.station).map StationEntry.state
              replyPayload :=
                if status = CompletionStatus.ok ∧ r.kind = RequestKind.fetch then r.replyPayload
                else none })) ∧
    ∀ r : Request, s.slots.getD i .free = .orphaned r →
      s.endRequest i status = { s with slots := s.slots.set i .free }

/-! ### Line control and selection -/

/-- A line-control command is refused CLAIMED while another port holds the line claim, whatever its
body and with no other effect; where the line claim is free or the caller's, and for LINE_STATUS and
CLAIM_STATUS always, the answer is never CLAIMED (R36). What a tick in progress leaves out once the
packet has restarted the lapse timer is the model's choice (log entry 3). -/
def Obligations.LineClaimBarsLineControl : Prop :=
  (∀ (p : Port) (body : List Byte) (c : ClaimRecord) (s : State) (i : Instr), s.Ready p →
    s.claim? 0 = some c → c.holder ≠ p →
    i ∈ [.lineStart p body, .lineHalt p body, .lineCut p body, .setPoll p body,
      .setLine p body] →
    exec i s = .next ((s.heard p).answer p .claimed [])) ∧
  ∀ (p : Port) (body : List Byte) (s : State) (i : Instr), s.Ready p →
    (s.Controls p ∧
        i ∈ [.lineStart p body, .lineHalt p body, .lineCut p body, .setPoll p body,
          .setLine p body]) ∨
      i ∈ [.lineStatus p body, .claimStatus p body] →
    ∃ t r, exec i s = .next t ∧ t.windows.get p = .answered r ∧ r.status ≠ .claimed

/-- LINE_START: from STOPPED or DRAINING the line becomes RUNNING with a LINE_STATE notice of cause
START and a selection is made where the line is free; RUNNING stays as it is (R61). What a tick in
progress leaves out once the packet has restarted the lapse timer is the model's choice (log entry
3). -/
def Obligations.LineStartRunsTheLine : Prop :=
  (∀ (p : Port) (s : State), s.Ready p → s.Controls p →
    exec (.lineStart p []) s =
      .next
        (if s.scheduler.line = .running then (s.heard p).answer p .ok []
        else (((s.heard p).announceLine .running .start).select).answer p .ok [])) ∧
  ∀ (p : Port) (body : List Byte) (s : State), s.Ready p → s.Controls p → body ≠ [] →
    exec (.lineStart p body) s = .next ((s.heard p).answer p .badArgument [])

/-- LINE_HALT: RUNNING drains where a transaction is in progress, and stops with a LINE_STATE notice
of cause HALT where none is; STOPPED and DRAINING stay. The end of the gap on a line that was so
stopped brings no selection (R62). What a tick in progress leaves out once the packet has restarted
the lapse timer is the model's choice (log entry 3). -/
def Obligations.LineHaltStopsTheLine : Prop :=
  (∀ (p : Port) (s : State), s.Ready p → s.Controls p →
    exec (.lineHalt p []) s =
      .next
        (if s.scheduler.line = .running then
          if s.scheduler.busy = .none then ((s.heard p).announceLine .stopped .halt).answer p .ok []
          else
            ({ s.heard p with scheduler := { s.scheduler with line := .draining } }).answer p .ok
              []
        else (s.heard p).answer p .ok [])) ∧
  (∀ (p : Port) (body : List Byte) (s : State), s.Ready p → s.Controls p → body ≠ [] →
    exec (.lineHalt p body) s = .next ((s.heard p).answer p .badArgument [])) ∧
  ∀ s : State, s.engine.phase = .gap → s.transaction = none → s.scheduler.line = .stopped →
    exec .interFrameGapEnd s =
      .next
        { s with
          engine :=
            { s.engine with
              phase := .idle, interval := 0
              active := s.engine.staged.getD s.engine.active, staged := none } }

/-- LINE_CUT: the transaction in progress ends, its request with CUT; the exchange on the line is
abandoned, counted as a cut where its frame was being sent; and a line that was not STOPPED becomes
STOPPED with a LINE_STATE notice of cause CUT (R64, R100, R117). What a tick in progress leaves out
once the packet has restarted the lapse timer is the model's choice (log entry 3). -/
def Obligations.LineCutEndsTheExchange : Prop :=
  (∀ (p : Port) (s : State), s.Ready p → s.Controls p →
    exec (.lineCut p []) s =
      .next
        (State.answer
          (let ended : State :=
            match s.transaction with
            | none => s.heard p
            | some t =>
              { (match t.source with
                | .request i => (s.heard p).endRequest i .cut
                | .visit => s.heard p) with
                transaction := none
                scheduler := { s.scheduler with busy := .none } }
          let cut : State :=
            { ended with
              engine :=
                match s.engine.phase with
                | .sending =>
                  { s.engine.inGap with
                    counters :=
                      { s.engine.counters with cuts := min 65535 (s.engine.counters.cuts + 1) } }
                | .turnaround | .listening | .receiving => s.engine.inGap
                | .gap | .idle => s.engine }
          if s.scheduler.line = .stopped then cut else cut.announceLine .stopped .cut)
          p .ok [])) ∧
  ∀ (p : Port) (body : List Byte) (s : State), s.Ready p → s.Controls p → body ≠ [] →
    exec (.lineCut p body) s = .next ((s.heard p).answer p .badArgument [])

/-- SET_POLL: a mode that is none of the three is refused BAD_ARGUMENT; OFF, ONCE and CONTINUOUS
have the effects of R75, the last two with a selection where the line is free. What a tick in
progress leaves out once the packet has restarted the lapse timer is the model's choice (log entry
3). -/
def Obligations.SetPollSetsTheSweep : Prop :=
  (∀ (p : Port) (m : Byte) (s : State), s.Ready p → s.Controls p →
    exec (.setPoll p [m]) s =
      .next
        (if m.toNat = 0 then
          ({ s.heard p with
            scheduler := { s.scheduler with mode := .off, requester := none } }).answer p .ok []
        else if m.toNat = 1 then
          (({ s.heard p with
            scheduler :=
              { s.scheduler with
                mode := .once, requester := some p, cursor := 0, visits := 0 } }).select).answer p
              .ok []
        else if m.toNat = 2 then
          (({ s.heard p with
            scheduler :=
              { s.scheduler with
                mode := .continuous, requester := none, cursor := 0
                visits := 0 } }).select).answer p .ok []
        else (s.heard p).answer p .badArgument [])) ∧
  ∀ (p : Port) (body : List Byte) (s : State), s.Ready p → s.Controls p → body.length ≠ 1 →
    exec (.setPoll p body) s = .next ((s.heard p).answer p .badArgument [])

/-- LINE_STATUS answers the items of R77 to any attached port, whoever holds the line claim, and
changes nothing but the lapse timer that any valid packet restarts. The configuration block, and the
codes of the line state and the poll mode, are those of R168 and Table 10-1. What a tick in progress
leaves out once the packet has restarted the lapse timer is the model's choice (log entry 3). -/
def Obligations.LineStatusReadsOnly : Prop :=
  (∀ (p : Port) (s : State), s.Ready p →
    exec (.lineStatus p []) s =
      .next
        ((s.heard p).answer p .ok
          ([s.scheduler.line.code, s.scheduler.mode.code,
              (match s.scheduler.requester with
              | some q => portByte q
              | none => 0xFF#8),
              byteOf s.scheduler.cursor, byteOf s.scheduler.visits, byteOf s.scheduler.credit,
              portByte s.scheduler.pointer] ++
            (match s.scheduler.busy with
            | .none => [0x00#8, 0x00#8]
            | .request i => [0x01#8, byteOf i]
            | .visit a => [0x02#8, byteOf a]) ++
            wordOf s.engine.counters.framesSent ++ wordOf s.engine.counters.repliesValid ++
            wordOf s.engine.counters.repliesBad ++ wordOf s.engine.counters.strayHeads ++
            wordOf s.engine.counters.unsolicited ++ wordOf s.engine.counters.cuts ++
            s.engine.active.bytes ++
            (match s.engine.staged with
            | some c => 0x01#8 :: c.bytes
            | none => List.replicate 10 0x00#8)))) ∧
  (∀ (p : Port) (body : List Byte) (s : State), s.Ready p → body ≠ [] →
    exec (.lineStatus p body) s = .next ((s.heard p).answer p .badArgument [])) ∧
  (∀ c : LineConfig, c.bytes =
    [byteOf c.rateCode, byteOf c.turnaround, byteOf (c.replyWindow / 256), byteOf c.replyWindow,
      byteOf c.charGapLimit, byteOf c.interFrameGap, byteOf c.retryBudget,
      byteOf c.offlineThreshold, byteOf c.pollShare]) ∧
  (∀ n : Nat, wordOf n = [byteOf (n / 256), byteOf n]) ∧
  [LineState.stopped, .running, .draining].map LineState.code = [0, 1, 2] ∧
  [PollMode.off, .once, .continuous].map PollMode.code = [0, 1, 2] ∧
  [Port.a, .b, .c, .d].map portByte = [0, 1, 2, 3]

/-- SET_LINE: every field is tested against its range; a set in range is active at once where the
engine is IDLE, a staged set being discarded, and is staged otherwise (R119). What a tick in
progress leaves out once the packet has restarted the lapse timer is the model's choice (log entry
3). -/
def Obligations.SetLineAppliesOrStages : Prop :=
  (∀ (p : Port) (rate turn wh wl limit gap retry threshold share : Byte) (s : State),
    s.Ready p → s.Controls p →
    exec (.setLine p [rate, turn, wh, wl, limit, gap, retry, threshold, share]) s =
      .next
        (if rate.toNat ≤ 7 ∧ (1 ≤ turn.toNat ∧ turn.toNat ≤ 63) ∧
            (11 ≤ wh.toNat * 256 + wl.toNat ∧ wh.toNat * 256 + wl.toNat ≤ 4095) ∧
            11 ≤ limit.toNat ∧ 11 ≤ gap.toNat ∧ retry.toNat ≤ 7 ∧
            (2 ≤ threshold.toNat ∧ threshold.toNat ≤ 15) ∧
            (1 ≤ share.toNat ∧ share.toNat ≤ 8) then
          let c : LineConfig :=
            { rateCode := rate.toNat, turnaround := turn.toNat
              replyWindow := wh.toNat * 256 + wl.toNat, charGapLimit := limit.toNat
              interFrameGap := gap.toNat, retryBudget := retry.toNat
              offlineThreshold := threshold.toNat, pollShare := share.toNat }
          if s.engine.phase = .idle then
            ({ s.heard p with
              engine := { s.engine with active := c, staged := none } }).answer p .ok []
          else
            ({ s.heard p with engine := { s.engine with staged := some c } }).answer p .staged []
        else (s.heard p).answer p .badArgument [])) ∧
  ∀ (p : Port) (body : List Byte) (s : State), s.Ready p → s.Controls p → body.length ≠ 9 →
    exec (.setLine p body) s = .next ((s.heard p).answer p .badArgument [])

/-- A selection on a free line either hands one transaction over, its frame already being sent, or
leaves the line free and the engine as it was, and then no port has a candidate and the sweep has no
visit to make. A port's candidate is the first eligible entry of its pending list, an eligible entry
being a PENDING slot with no claim of another port on its target; and the sweep finds the
poll-enabled station of lowest address above the cursor, or, in CONTINUOUS where there is none, the
one of lowest address of all (R66 to R69, R73). -/
def Obligations.SelectionChoosesOrFindsNothing : Prop :=
  (∀ s : State, s.lineFree = true →
    (s.select.scheduler.busy ≠ .none ∧ s.select.transaction.isSome = true ∧
      s.select.engine.phase = .sending ∧ s.select.engine.de = true) ∨
    (s.select.lineFree = true ∧ s.select.transaction = s.transaction ∧
      s.select.engine = s.engine ∧ (∀ q, s.select.candidate? q = none) ∧
      s.select.sweepFinds? = none)) ∧
  (∀ (s : State) (i : Nat),
    (s.eligible i = true ↔
      ∃ p r, s.slots.getD i .free = .pending p r ∧
        ∀ c, s.claim? (if r.kind = RequestKind.broadcast then 0 else r.station) = some c →
          c.holder = p) ∧
    (s.isUrgent i = true ↔
      ∃ r, (s.slots.getD i .free).request? = some r ∧ r.urgent = true)) ∧
  (∀ (s : State) (p : Port),
    (∀ i, s.candidate? p = some i ↔
      ∃ front rest, s.lists.get p = front ++ i :: rest ∧ s.eligible i = true ∧
        ∀ j ∈ front, s.eligible j = false) ∧
    (s.candidate? p = none ↔ ∀ i ∈ s.lists.get p, s.eligible i = false)) ∧
  ∀ s : State, s.DirectoryOk →
    ∀ lowest : Nat → Nat → Prop,
      (lowest = fun k a =>
        k < a ∧ (∃ e ∈ s.directory, e.address = a ∧ e.pollEnabled = true) ∧
          ∀ e ∈ s.directory, e.pollEnabled = true → k < e.address → a ≤ e.address) →
    (s.scheduler.mode = .off → s.sweepFinds? = none) ∧
    (s.scheduler.mode = .once →
      ∀ a, s.sweepFinds? = some a ↔ lowest s.scheduler.cursor a) ∧
    (s.scheduler.mode = .continuous →
      ∀ a, s.sweepFinds? = some a ↔
        lowest s.scheduler.cursor a ∨
          ((∀ e ∈ s.directory, e.pollEnabled = true → e.address ≤ s.scheduler.cursor) ∧
            lowest 0 a))

/-- A selection on a free line chooses by the order of R69: the poll visit that the credit calls
for, then the first urgent candidate after the rotation pointer, then the first candidate, then an
idle poll visit. A SEND or FETCH to an OFFLINE station ends with STATION_OFFLINE, and the selection
goes on. A ONCE sweep that finds no station ends first: the mode becomes OFF, SWEEP_DONE with the
sweep visits is offered to the requester, the requester becomes none, and the selection goes on with
no poll visit to make (R69 to R74). -/
def Obligations.SelectionFollowsItsOrder : Prop :=
  (∀ s : State, s.lineFree = true → (s.scheduler.mode = .once → s.sweepFinds? ≠ none) →
    (∀ a, s.sweepFinds? = some a → s.engine.active.pollShare ≤ s.scheduler.credit →
      s.select = s.beginVisit a 0) ∧
    ((s.sweepFinds? = none ∨ s.scheduler.credit < s.engine.active.pollShare) →
      (∀ before p after i r, s.scheduler.pointer.rotation = before ++ p :: after →
        s.candidate? p = some i → s.slots.getD i .free = .pending p r →
        (r.urgent = true ∧ ∀ q ∈ before, ∀ j, s.candidate? q = some j → s.isUrgent j = false) ∨
          ((∀ q j, s.candidate? q = some j → s.isUrgent j = false) ∧
            ∀ q ∈ before, s.candidate? q = none) →
        s.select =
          (let taken : State :=
            { s with
              lists := s.lists.set p ((s.lists.get p).filter (fun j => j != i))
              scheduler := { s.scheduler with pointer := p } }
          if (r.kind = RequestKind.send ∨ r.kind = RequestKind.fetch) ∧
              ∃ e, s.station? r.station = some e ∧ e.state = .offline then
            (taken.endRequest i .stationOffline).select
          else taken.beginRequest p i r)) ∧
      ((∀ q, s.candidate? q = none) →
        ∀ a, s.sweepFinds? = some a → s.select = s.beginVisit a s.scheduler.credit))) ∧
  ∀ s : State, s.lineFree = true → s.scheduler.mode = .once → s.sweepFinds? = none →
    s.select =
      State.select
        { s with
          scheduler := { s.scheduler with mode := .off, requester := none }
          queues :=
            match s.scheduler.requester with
            | none => s.queues
            | some p =>
              if s.isAttached p = false then s.queues
              else
                s.queues.set p
                  (if (s.queues.get p).notices.length + (s.queues.get p).reserved < 16 then
                    { s.queues.get p with
                      notices :=
                        (s.queues.get p).notices ++ [.sweepDone s.scheduler.visits]
                      attn := true }
                  else
                    { s.queues.get p with
                      missed := min 255 ((s.queues.get p).missed + 1) }) }

/-- What a selection hands over: the slot of a chosen request becomes ACTIVE with its retry budget
and its first attempt counted; busy, the poll credit and the cursor take their values; the
transaction record is filled; and its first frame is being sent, a join probe where a SEND, FETCH or
POLL finds its station not synchronised, with the bit of the station that the frame carries. A
character being received is discarded: it is held as cut across, the model's form for one that is not
heard whole (log entry 10) (R50, R71, R73, R81, R82, R83, R107). -/
def Obligations.TransactionsBeginTheirFrames : Prop :=
  (∀ (s : State) (p : Port) (i : Nat) (r : Request) (frame : Frame) (phase : Phase),
    i < s.slots.length →
    (r.kind = .broadcast ∧ phase = .mainFrame ∧
        frame = { address := 0, kind := .send, sBit := false, payload := r.payload } ∨
      r.kind = .probe ∧ phase = .mainFrame ∧
        frame = { address := r.station, kind := .probe, sBit := false, payload := [] } ∨
      ∃ e, s.station? r.station = some e ∧
        (r.kind = .send ∧ e.synchronised = true ∧ phase = .mainFrame ∧
            frame =
              { address := r.station, kind := .send, sBit := e.sendBit, payload := r.payload } ∨
          r.kind = .fetch ∧ e.synchronised = true ∧ phase = .mainFrame ∧
            frame =
              { address := r.station, kind := .fetch, sBit := false, payload := r.payload } ∨
          (r.kind = .send ∨ r.kind = .fetch) ∧ e.synchronised = false ∧ phase = .joinProbe ∧
            frame = { address := r.station, kind := .probe, sBit := false, payload := [] })) →
    s.beginRequest p i r =
      { s with
        slots :=
          s.slots.set i
            (.active p
              { r with
                retryBudget := some (r.retryBudget.getD s.engine.active.retryBudget)
                attempts := r.attempts + 1 })
        scheduler :=
          { s.scheduler with
            credit := min 8 (s.scheduler.credit + 1), busy := .request i }
        transaction :=
          some
            { source := .request i, station := r.station
              main :=
                match r.kind with
                | .send => .send
                | .fetch => .fetch
                | .probe => .probe
                | .broadcast => .broadcast
              phase := phase }
        engine :=
          { s.engine with
            phase := .sending, de := true, exchange := some frame, receiving := none
            interval := 0, cutAcross := s.engine.cutAcross || s.engine.receiving.isSome } }) ∧
  ∀ (s : State) (a credit : Nat) (e : StationEntry), s.station? a = some e →
    s.beginVisit a credit =
      { s with
        scheduler :=
          { s.scheduler with
            cursor := a
            visits :=
              if s.scheduler.mode = .once then min 64 (s.scheduler.visits + 1)
              else s.scheduler.visits
            credit := credit, busy := .visit a }
        transaction :=
          some
            { source := .visit, station := a
              main := if e.state = .offline then .probe else .poll
              phase :=
                if e.state ≠ .offline ∧ e.synchronised = false then .joinProbe else .mainFrame }
        engine :=
          { s.engine with
            phase := .sending, de := true, receiving := none, interval := 0
            cutAcross := s.engine.cutAcross || s.engine.receiving.isSome
            exchange :=
              some
                (if e.state = .offline ∨ e.synchronised = false then
                  { address := a, kind := .probe, sBit := false, payload := [] }
                else { address := a, kind := .poll, sBit := e.reportBit, payload := [] }) } }

/-- A selection begins no request whose target another port holds: a PENDING slot that is ACTIVE
after a selection had no claim against its owner (R35, R67). -/
def Obligations.ClaimsHoldBackFirstAttempts : Prop :=
  ∀ (s : State) (i : Nat) (p q : Port) (r r' : Request),
    s.slots.getD i .free = .pending p r → s.select.slots.getD i .free = .active q r' →
    ∀ c, s.claim? (if r.kind = RequestKind.broadcast then 0 else r.station) = some c → c.holder = p

/-! ### The line -/

/-- Table 5-2: the judgement of each exchange result for each frame sent; SENT is a broadcast's alone,
and every other result another frame's (R85 to R91). The replies of a station that keeps its
obligations are judged so that the two sides' bits agree after each of them: an ACK advances the part's
send bit to the station's, for a new SEND and for a copy, and a NAK leaves both; a PROBE brings all
bits to 0; a POLL is answered alike until its S changes, gives up the held report where it differs, and
a REPORT carries the S that the part expects (R173, R174). -/
def Obligations.ResultsAreJudged : Prop :=
  (∀ (sBit : Bool) (limit : Nat) (r : Reply),
    (judge .send sBit limit (.frame r) =
      if r.kind = .ack ∧ r.sBit = sBit then ⟨.success, .validReply r.noise true, none, none⟩
      else if r.kind = .nak then ⟨.refused r.reason, .validReply r.noise false, none, none⟩
      else ⟨.failure .format, .failedAttempt, none, none⟩) ∧
    (judge .fetch sBit limit (.frame r) =
      if r.kind = .data then
        if r.payload.length ≤ limit then
          ⟨.success, .validReply r.noise false, some r.payload, none⟩
        else ⟨.tooLong, .validReply r.noise false, none, none⟩
      else if r.kind = .nak then ⟨.refused r.reason, .validReply r.noise false, none, none⟩
      else ⟨.failure .format, .failedAttempt, none, none⟩) ∧
    (judge .probe sBit limit (.frame r) =
      if r.kind = .ack then ⟨.success, .successfulProbe r.noise, none, none⟩
      else ⟨.failure .format, .failedAttempt, none, none⟩) ∧
    (judge .poll sBit limit (.frame r) =
      if r.kind = .nil then ⟨.success, .validReply r.noise false, none, none⟩
      else if r.kind = .report then
        ⟨.success, .validReply r.noise false, none, some (r.sBit, r.payload, r.noise)⟩
      else ⟨.failure .format, .failedAttempt, none, none⟩) ∧
    judge .broadcast sBit limit .sent = ⟨.success, .none, none, none⟩ ∧
    ∀ k : MainKind, k ≠ .broadcast →
      (∀ cause, judge k sBit limit (.invalid cause) =
        ⟨.failure cause, .failedAttempt, none, none⟩) ∧
      judge k sBit limit .silent = ⟨.failure .noReply, .failedAttempt, none, none⟩ ∧
      judge k sBit limit .stray = ⟨.failure .strayOnly, .failedAttempt, none, none⟩) ∧
  (∀ (st : FieldStation) (will : StationWill) (f r : Reply) (limit : Nat), f.kind = .send →
    (st.takeFrame will f).reply = some r →
    ∃ v advance,
      judge .send f.sBit limit (.frame r) = ⟨v, .validReply false advance, none, none⟩ ∧
      (st.takeFrame will f).station = { st with sendBit := xor f.sBit advance } ∧
      (f.sBit ≠ st.sendBit → v = .success ∧ (st.takeFrame will f).acted = none) ∧
      (f.sBit = st.sendBit →
        match will.sendNak with
        | none => v = .success ∧ (st.takeFrame will f).acted = some f.payload
        | some reason => v = .refused reason ∧ (st.takeFrame will f).acted = none)) ∧
  (∀ (st : FieldStation) (will : StationWill) (f : Reply) (sBit : Bool) (limit : Nat),
    f.kind = .probe →
    ∃ r, (st.takeFrame will f).reply = some r ∧
      judge .probe sBit limit (.frame r) = ⟨.success, .successfulProbe false, none, none⟩ ∧
      (st.takeFrame will f).station = { st with sendBit := false, reportBit := false }) ∧
  (∀ (st : FieldStation) (will : StationWill) (f : Reply) (limit : Nat), f.kind = .fetch →
    (st.takeFrame will f).station = st ∧
    ∃ r, (st.takeFrame will f).reply = some r ∧
      judge .fetch f.sBit limit (.frame r) =
        match will.fetchNak with
        | some reason => ⟨.refused reason, .validReply false false, none, none⟩
        | none =>
          if will.fetchData.length ≤ limit then
            ⟨.success, .validReply false false, some will.fetchData, none⟩
          else ⟨.tooLong, .validReply false false, none, none⟩) ∧
  ∀ (st : FieldStation) (will : StationWill) (f : Reply) (limit : Nat), f.kind = .poll →
    ∃ r reports, reports = (if f.sBit = st.reportBit then st.reports else st.reports.tail) ∧
      (st.takeFrame will f).station = { st with reportBit := f.sBit, reports := reports } ∧
      (st.takeFrame will f).reply = some r ∧
      ((st.takeFrame will f).station.takeFrame will f).reply = some r ∧
      judge .poll f.sBit limit (.frame r) =
        ⟨.success, .validReply false false, none,
          reports.head?.map (fun payload => (f.sBit, payload, false))⟩

/-- The decision for a REPORT reply (Table 7-2): repeated, with no effect; consumed and lost where
the entry has no subscriber; deferred where no buffer is free; and otherwise delivered into the
lowest free buffer, with a notice to each subscriber whose queue admits it, the gap flags and the
missed counts of the others following, the report bit toggled, and the buffer free again where no
queue admitted a notice (R124 to R131). -/
def Obligations.ReportsAreJudgedAtTheStore : Prop :=
  ∀ (s : State) (a : Nat) (e : StationEntry) (sBit noise : Bool) (payload : List Byte),
    s.DirectoryOk → s.station? a = some e →
    (sBit ≠ e.reportBit → s.judgeReport a sBit payload noise = s) ∧
    (sBit = e.reportBit → e.subscribers = [] →
      s.judgeReport a sBit payload noise =
        { s with
          directory :=
            tablePut StationEntry.address
              { e with
                reportBit := !e.reportBit, lostReports := min 65535 (e.lostReports + 1) }
              s.directory }) ∧
    (sBit = e.reportBit → e.subscribers ≠ [] →
      (∀ j < s.buffers.length, s.buffers.getD j none ≠ none) →
      s.judgeReport a sBit payload noise =
        { s with
          directory :=
            tablePut StationEntry.address
              { e with deferredReports := min 65535 (e.deferredReports + 1) } s.directory }) ∧
    ∀ i, sBit = e.reportBit → e.subscribers ≠ [] → i < s.buffers.length →
      s.buffers.getD i none = none → (∀ j < i, s.buffers.getD j none ≠ none) →
      ∀ n, n = e.subscribers.countP (fun y => s.admits y.port) →
      ∃ queues : PerPort EventQueue,
        s.judgeReport a sBit payload noise =
          { s with
            directory :=
              tablePut StationEntry.address
                { e with
                  reportBit := !e.reportBit
                  subscribers := e.subscribers.map (fun y => { y with gap := !s.admits y.port })
                  lostReports :=
                    if n = 0 then min 65535 (e.lostReports + 1) else e.lostReports }
                s.directory
            buffers :=
              s.buffers.set i
                (if n = 0 then none
                else some { station := a, payload := payload, noise := noise, refs := n })
            queues := queues } ∧
        ∀ q : Port,
          queues.get q =
            match e.subscribers.find? (fun y => decide (y.port = q)) with
            | none => s.queues.get q
            | some y =>
              if s.isAttached q = false then s.queues.get q
              else if (s.queues.get q).notices.length + (s.queues.get q).reserved < 16 then
                { s.queues.get q with
                  notices :=
                    (s.queues.get q).notices ++
                      [.report
                        { station := a, buffer := i, length := payload.length, noise := noise
                          gap := y.gap }]
                  attn := true }
              else
                { s.queues.get q with missed := min 255 ((s.queues.get q).missed + 1) }

/-- LAST_STOP_BIT_END counts the frame; a frame to a station goes on to TURNAROUND with DE released
and the turnaround gap running, and a broadcast's exchange ends with SENT. TURNAROUND_END opens the
reply window; REPLY_WINDOW_END closes it, and in LISTENING with no character in progress the
exchange ends, STRAY where a stray head was seen and SILENT where none was; CHARACTER_GAP_LIMIT ends
an assembly with TRUNCATED, counted as a bad reply (R107, R108, R109, R112). -/
def Obligations.LineTimersEndTheirPhases : Prop :=
  (∀ (f : Frame) (s : State), s.engine.phase = .sending → s.engine.exchange = some f →
    exec .lastStopBitEnd s =
      .next
        (let counted :=
          { s.engine with
            counters :=
              { s.engine.counters with
                framesSent := min 65535 (s.engine.counters.framesSent + 1) } }
        if f.address = 0 then ({ s with engine := counted }).endExchange .sent
        else
          { s with
            engine :=
              { counted with
                phase := .turnaround, de := false, interval := s.engine.active.turnaround } })) ∧
  (∀ s : State, s.engine.phase = .turnaround →
    exec .turnaroundEnd s =
      .next
        { s with
          engine :=
            { s.engine with
              phase := .listening, windowOpen := true, strays := false, receiving := none
              interval := s.engine.active.replyWindow } }) ∧
  (∀ s : State, s.engine.windowOpen = true →
    (s.engine.phase = .receiving ∨ (s.engine.phase = .listening ∧ s.engine.receiving ≠ none) →
      exec .replyWindowEnd s =
        .next { s with engine := { s.engine with windowOpen := false } }) ∧
    (s.engine.phase = .listening → s.engine.receiving = none →
      exec .replyWindowEnd s =
        .next
          (({ s with engine := { s.engine with windowOpen := false } }).endExchange
            (if s.engine.strays then .stray else .silent)))) ∧
  ∀ s : State, s.engine.phase = .receiving → s.engine.receiving = none →
    exec .characterGapLimit s =
      .next
        (({ s with
          engine :=
            { s.engine with
              counters :=
                { s.engine.counters with
                  repliesBad := min 65535 (s.engine.counters.repliesBad + 1) } } }).endExchange
          (.invalid .truncated))

/-- The end of an exchange: the engine enters GAP, and the Transaction Unit, where it holds a
transaction, judges the result in the same happening. It sends the one report to the directory, then
a REPORT reply to the Report Store, then writes the slot's fields, and then decides: a join probe
that succeeded waits for its main frame; a visit ends; an orphan ends with no COMPLETION; an ACTIVE
request ends OK, REFUSED or REPLY_TOO_LONG, and after a failure CANCELLED where cancel was
requested, NO_REPLY or BAD_REPLY where its station is OFFLINE or its budget is spent, and otherwise
waits for its next attempt. The end of a transaction empties the record and stops a DRAINING line
(R51, R63, R84, R92 to R101, R115). -/
def Obligations.ExchangesEndInTheGap : Prop :=
  (∀ (s : State) (result : ExchangeResult),
    (s.transaction = none →
      s.endExchange result = { s with engine := s.engine.inGap }) ∧
    ∀ t : Transaction, s.transaction = some t →
      s.endExchange result =
        ({ s with engine := s.engine.inGap }).handResult t
          (s.engine.exchange.any Frame.sBit) result) ∧
  ∀ (s : State) (t : Transaction) (sBit : Bool) (result : ExchangeResult) (limit : Nat)
      (j : Judgement) (told : State),
    j = judge (if t.phase = .joinProbe then .probe else t.main) sBit limit result →
    told =
      (match j.store with
      | none => s.applyReport t.station j.report
      | some (bit, payload, noise) =>
        (s.applyReport t.station j.report).judgeReport t.station bit payload noise) →
    (t.source = .visit → limit = 0 →
      s.handResult t sBit result =
        if t.phase = .joinProbe ∧ j.verdict = .success then
          { told with transaction := some { t with phase := .awaitMain } }
        else told.transactionOver) ∧
    ∀ (i : Nat) (r r' : Request), t.source = .request i → i < s.slots.length →
      limit = r.replyLimit.getD 0 →
      r' =
        { r with
          replyPayload := if j.reply = none then r.replyPayload else j.reply
          lastFault :=
            match j.verdict with
            | .failure f => some f
            | _ => r.lastFault
          nakReason :=
            match j.verdict with
            | .refused reason => some reason
            | _ => r.nakReason } →
      (s.slots.getD i .free = .orphaned r →
        s.handResult t sBit result =
          if t.phase = .joinProbe ∧ j.verdict = .success then
            { told with
              slots := told.slots.set i (.orphaned r')
              transaction := some { t with phase := .awaitMain } }
          else ({ told with slots := told.slots.set i .free }).transactionOver) ∧
      ∀ (p : Port) (written : State), s.slots.getD i .free = .active p r →
        written = { told with slots := told.slots.set i (.active p r') } →
        s.handResult t sBit result =
          if t.phase = .joinProbe ∧ j.verdict = .success then
            { written with transaction := some { t with phase := .awaitMain } }
          else
            match j.verdict with
            | .success => (written.endRequest i .ok).transactionOver
            | .refused _ => (written.endRequest i .refused).transactionOver
            | .tooLong => (written.endRequest i .replyTooLong).transactionOver
            | .failure f =>
              if r.cancelRequested = true then (written.endRequest i .cancelled).transactionOver
              else if (∃ e, told.station? r.station = some e ∧ e.state = .offline) ∨
                  1 + r.retryBudget.getD 0 ≤ r.attempts then
                (written.endRequest i
                  (if f = .noReply ∨ f = .strayOnly then .noReply
                  else .badReply)).transactionOver
              else { written with transaction := some { t with phase := .awaitRetry } }

/-- A character in LISTENING that the receiver was on for: one with mark bit 0 or a framing error is
ignored; a head from the exchange's station opens an assembly; any other head is a stray, counted.
Where the window ended while the character was being received, one that opens no assembly ends the
exchange (R109, R110). -/
def Obligations.ListeningTakesHeadsAlone : Prop :=
  ∀ (samples : CharSamples) (c : Character) (f : Frame) (s : State),
    s.engine.phase = .listening → s.engine.assembly = [] → s.engine.cutAcross = false →
    s.engine.exchange = some f → samples.character = some c →
    exec (.characterInListening samples) s =
      .next
        (let ignored : State := { s with engine := { s.engine with receiving := none } }
        let stray : State :=
          { s with
            engine :=
              { s.engine with
                receiving := none, strays := true
                counters :=
                  { s.engine.counters with
                    strayHeads := min 65535 (s.engine.counters.strayHeads + 1) } } }
        if c.mark = false ∨ c.framing = true then
          if s.engine.windowOpen = true then ignored
          else ignored.endExchange (if s.engine.strays then .stray else .silent)
        else if c.data.getLsbD 7 = true ∧ c.data.toNat % 128 = f.address then
          { s with
            engine := { s.engine with phase := .receiving, receiving := none, assembly := [c] } }
        else if s.engine.windowOpen = true then stray
        else stray.endExchange .stray)

/-- A frame character in RECEIVING: it joins the assembly; a length character above 32 ends the
exchange INVALID with FORMAT, and the character that completes the frame ends it with the
validation's result, a FRAME counted as a valid reply and an INVALID as a bad one. The validation:
FRAMING, then CHECK, then FORMAT for a code that is no kind's, a length its kind does not allow, or
reason bits in another kind than NAK (R111, R113, R114, R121). -/
def Obligations.ReceivingAssemblesAFrame : Prop :=
  (∀ (samples : CharSamples) (c : Character) (s : State), s.engine.phase = .receiving →
    s.engine.cutAcross = false → samples.character = some c → c.mark = false ∨ c.framing = true →
    ∀ frame, frame = s.engine.assembly ++ [c] →
      (frame.length < 3 →
        exec (.characterInReceiving samples) s =
          .next
            { s with engine := { s.engine with receiving := none, assembly := frame } }) ∧
      ∀ n : Nat, (frame[2]?).map (fun x => x.data.toNat) = some n →
        (n ≤ 32 → frame.length < n + 4 →
          exec (.characterInReceiving samples) s =
            .next
              { s with engine := { s.engine with receiving := none, assembly := frame } }) ∧
        (32 < n →
          exec (.characterInReceiving samples) s =
            .next
              (({ s with
                engine :=
                  { s.engine with
                    receiving := none
                    counters :=
                      { s.engine.counters with
                        repliesBad := min 65535 (s.engine.counters.repliesBad + 1) } } }).endExchange
                (.invalid .format))) ∧
        (n ≤ 32 → frame.length = n + 4 →
          exec (.characterInReceiving samples) s =
            .next
              (({ s with
                engine :=
                  { s.engine with
                    receiving := none
                    counters :=
                      match validate frame with
                      | .frame _ =>
                        { s.engine.counters with
                          repliesValid := min 65535 (s.engine.counters.repliesValid + 1) }
                      | .invalid _ =>
                        { s.engine.counters with
                          repliesBad := min 65535 (s.engine.counters.repliesBad + 1) }
                      | .sent | .silent | .stray => s.engine.counters } }).endExchange
                (validate frame)))) ∧
  (∀ (head control length check : Character) (payload : List Character),
    validate (head :: control :: length :: (payload ++ [check])) =
      if ∃ x ∈ head :: control :: length :: (payload ++ [check]), x.framing = true then
        .invalid .framing
      else if check.data ≠
          crc8 (head.data :: control.data :: length.data :: payload.map Character.data) then
        .invalid .check
      else
        match FrameKind.ofCode (control.data.toNat % 16) with
        | none => .invalid .format
        | some k =>
          if k.allowsLength payload.length = false then .invalid .format
          else if k ≠ .nak ∧ control.data.toNat / 32 ≠ 0 then .invalid .format
          else
            .frame
              { kind := k, sBit := control.data.getLsbD 4, reason := control.data.toNat / 32
                payload := payload.map Character.data
                noise :=
                  decide
                    (∃ x ∈ head :: control :: length :: (payload ++ [check]),
                      x.noise = true) }) ∧
  (List.range 16).map FrameKind.ofCode =
    [none, some .send, some .fetch, some .poll, some .probe, none, none, none, some .ack,
      some .nak, some .data, some .nil, some .report, none, none, none] ∧
  ∀ (k : FrameKind) (n : Nat), k.allowsLength n = true ↔
    (k = .send ∨ k = .report) ∧ 1 ≤ n ∧ n ≤ 32 ∨ k = .fetch ∧ n ≤ 8 ∨ k = .data ∧ n ≤ 32 ∨
      k ∉ [.send, .report, .fetch, .data] ∧ n = 0

/-- A new head in RECEIVING abandons the frame being assembled, counted as a stray: one that began
within the window is taken as in LISTENING, a match restarting the assembly and any other head
counted too; one that began after the window ended ends the exchange with STRAY (R109, R111). That a
head with no start-bit row before it began at that moment, so that the window as it stands decides,
is the model's choice (log entry 11). -/
def Obligations.NewHeadAbandonsTheFrame : Prop :=
  ∀ (samples : CharSamples) (c : Character) (f : Frame) (s : State),
    s.engine.phase = .receiving → s.engine.exchange = some f → s.engine.cutAcross = false →
    samples.character = some c → c.mark = true → c.framing = false →
    (s.engine.receiving.getD s.engine.windowOpen = false →
      exec (.characterInReceiving samples) s =
        .next
          (({ s with
            engine :=
              { s.engine with
                receiving := none, strays := true
                counters :=
                  { s.engine.counters with
                    strayHeads := min 65535 (s.engine.counters.strayHeads + 1) } } }).endExchange
            .stray)) ∧
    (s.engine.receiving.getD s.engine.windowOpen = true →
      exec (.characterInReceiving samples) s =
        .next
          (if c.data.getLsbD 7 = true ∧ c.data.toNat % 128 = f.address then
            { s with
              engine :=
                { s.engine with
                  receiving := none, strays := true, assembly := [c]
                  counters :=
                    { s.engine.counters with
                      strayHeads := min 65535 (s.engine.counters.strayHeads + 1) } } }
          else
            let stray : State :=
              { s with
                engine :=
                  { s.engine with
                    phase := .listening, receiving := none, strays := true, assembly := []
                    counters :=
                      { s.engine.counters with
                        strayHeads :=
                          min 65535 (min 65535 (s.engine.counters.strayHeads + 1) + 1) } } }
            if s.engine.windowOpen = true then stray else stray.endExchange .stray))

/-- INTER_FRAME_GAP_END: the engine enters IDLE with the staged set active, then the Transaction
Unit acts, then a selection is made where the line is free; after a join probe the main frame is
built from the station's bits as they stand and sent, and a request whose next attempt is due begins
it, counted, with a join probe where its station is not synchronised, or ends CANCELLED, or its
orphan ends (R51, R82, R83, R93, R96, R97, R115). -/
def Obligations.GapEndResumesTheLine : Prop :=
  ∀ s : State, s.engine.phase = .gap →
    ∀ idle, idle =
      { s with
        engine :=
          { s.engine with
            phase := .idle, interval := 0
            active := s.engine.staged.getD s.engine.active, staged := none } } →
    (s.transaction = none → exec .interFrameGapEnd s = .next idle.select) ∧
    ∀ t : Transaction, s.transaction = some t →
      (t.phase = .awaitMain → ∀ (e : StationEntry) (payload : List Byte) (main : Frame),
        s.station? t.station = some e →
        ((t.source = .visit ∧ payload = []) ∨
          ∃ i r, t.source = .request i ∧ (s.slots.getD i .free).request? = some r ∧
            payload = r.payload) →
        (t.main = .send ∧
            main = { address := t.station, kind := .send, sBit := e.sendBit, payload := payload } ∨
          t.main = .fetch ∧
            main = { address := t.station, kind := .fetch, sBit := false, payload := payload } ∨
          t.main = .poll ∧
            main = { address := t.station, kind := .poll, sBit := e.reportBit, payload := [] }) →
        exec .interFrameGapEnd s = .next (idle.sendsFrame t .mainFrame main).select) ∧
      (t.phase = .awaitRetry → ∀ i, t.source = .request i → i < s.slots.length →
        (∀ q r (e : StationEntry) (main : Frame), s.slots.getD i .free = .active q r →
          r.cancelRequested = false → s.station? t.station = some e →
          (t.main = .send ∧
              main =
                { address := t.station, kind := .send, sBit := e.sendBit, payload := r.payload } ∨
            t.main = .fetch ∧
              main =
                { address := t.station, kind := .fetch, sBit := false, payload := r.payload } ∨
            t.main = .probe ∧
              main = { address := t.station, kind := .probe, sBit := false, payload := [] }) →
          exec .interFrameGapEnd s =
            .next
              (let counted : State :=
                { idle with
                  slots := idle.slots.set i (.active q { r with attempts := r.attempts + 1 }) }
              if t.main ≠ .probe ∧ e.synchronised = false then
                counted.sendsFrame t .joinProbe
                  { address := t.station, kind := .probe, sBit := false, payload := [] }
              else counted.sendsFrame t .mainFrame main).select) ∧
        (∀ q r, s.slots.getD i .free = .active q r → r.cancelRequested = true →
          exec .interFrameGapEnd s =
            .next ((idle.endRequest i .cancelled).transactionOver).select) ∧
        (∀ r, s.slots.getD i .free = .orphaned r →
          exec .interFrameGapEnd s =
            .next
              (({ idle with slots := idle.slots.set i .free }).transactionOver).select))

/-- A character received in IDLE or GAP is counted as unsolicited, one with a framing error too, and
discarded; a rejected glitch is not counted. ACCEPTED_START_BIT while the receiver seeks: a character
is in progress, and whether it began in the reply window is kept; a start bit whose majority is 1 is a
rejected glitch (R105, R109, R116). A start bit in SENDING or TURNAROUND is not sampled, and the
character that the turnaround cuts across is lost, with no count and no other effect (R105, R108). That
such a start bit is held, and that the next character row with no start bit's row of its own is the cut
character's, in whatever state the engine is when it comes, is the model's choice (log entries 10 and
11). -/
def Obligations.ReceiverSeeksAndCounts : Prop :=
  (∀ (samples : CharSamples) (c : Character) (s : State),
    s.engine.phase = .gap ∨ s.engine.phase = .idle → s.resetLow = false →
    s.engine.cutAcross = false → samples.character = some c →
    exec (.unsolicitedCharacter samples) s =
      .next
        { s with
          engine :=
            { s.engine with
              receiving := none
              counters :=
                { s.engine.counters with
                  unsolicited := min 65535 (s.engine.counters.unsolicited + 1) } } }) ∧
  (∀ (samples : CharSamples) (s : State), samples.character = none →
    exec (.unsolicitedCharacter samples) s = .next s) ∧
  (∀ (b : BitSamples) (s : State), s.resetLow = false → s.engine.receiving = none →
    s.engine.phase ∈ [.idle, .listening, .receiving, .gap] →
    exec (.acceptedStartBit b) s =
      .next
        (if b.majority then s
        else
          { s with
            engine :=
              { s.engine with receiving := some s.engine.windowOpen, cutAcross := false } })) ∧
  (∀ (b : BitSamples) (s : State), s.resetLow = false →
    s.engine.phase ∈ [.sending, .turnaround] →
    exec (.acceptedStartBit b) s =
      .next
        (if b.majority then s else { s with engine := { s.engine with cutAcross := true } })) ∧
  ∀ (samples : CharSamples) (s : State) (i : Instr), s.resetLow = false →
    s.engine.cutAcross = true → samples.character ≠ none →
    (s.engine.phase = .listening ∧ i = .characterInListening samples) ∨
      (s.engine.phase = .receiving ∧ i = .characterInReceiving samples) ∨
      ((s.engine.phase = .gap ∨ s.engine.phase = .idle) ∧ i = .unsolicitedCharacter samples) →
    exec i s = .next { s with engine := { s.engine with cutAcross := false } }

/-! ### Encodings -/

/-- Every host packet reads back: the packet written for a well-formed command, when its last byte
completes it on a port, is that command on that port, with its whole body. The bits sent for bytes,
most significant first, are received as those bytes, the bits of a byte that is not whole being
discarded. A prepared response comes after one to eight wait bytes, as start byte, status, length,
body and the check that makes the sum 0, and 0x00 follows it; a window that is receiving returns
wait bytes; and SDO is at high impedance while select is high. A command packet is code, length,
body and the check that makes the sum 0 (Table 10-2); the 22 command codes are those of Table 10-3
and the status codes those of Table 10-4 (R152 to R156, R167, R168). That SDO is at high impedance
also through a window that is not examined, after RESET_n has risen too, is the model's reading (log
entry 8). -/
def Obligations.HostPacketsReadBack : Prop :=
  (∀ (i : Instr) (p : Port) (code : Byte) (body : List Byte), i.wellFormed = true →
    i.packetParts = some (p, code, body) →
    i.toPacket = some (commandPacket code body) ∧
    Instr.ofPacket p (commandPacket code body) = some i) ∧
  (∀ (p : Port) (body : List Byte),
    [Instr.attach p body, .detach p body, .portStatus p body, .nextEvent p body, .enroll p body,
      .dismiss p body, .setStation p body, .subscribe p body, .unsubscribe p body,
      .stationStatus p body, .claim p body, .renew p body, .release p body, .claimStatus p body,
      .submit p body, .cancel p body, .lineStart p body, .lineHalt p body, .lineCut p body,
      .setPoll p body, .lineStatus p body, .setLine p body].map Instr.packetParts =
    [0x01, 0x02, 0x03, 0x04, 0x10, 0x11, 0x12, 0x13, 0x14, 0x15, 0x20, 0x21, 0x22, 0x23, 0x30, 0x31,
      0x40, 0x41, 0x42, 0x43, 0x44, 0x45].map (fun code => some (p, code, body))) ∧
  (∀ (code : Byte) (body : List Byte), ∃ check : Byte,
    commandPacket code body = code :: byteOf body.length :: (body ++ [check]) ∧
    (commandPacket code body).foldl (· + ·) 0#8 = 0#8) ∧
  (∀ (bytes : List Byte) (part : List Bool), part.length < 8 →
    sdiBytes
      (bytes.flatMap (fun b =>
        [b.getLsbD 7, b.getLsbD 6, b.getLsbD 5, b.getLsbD 4, b.getLsbD 3, b.getLsbD 2,
          b.getLsbD 1, b.getLsbD 0]) ++ part) = bytes) ∧
  (∀ r : Response, ∃ check : Byte,
    r.packet = 0xA7#8 :: r.status.code :: byteOf r.body.length :: (r.body ++ [check]) ∧
    r.packet.foldl (· + ·) 0#8 = 0#8 ∧
    ∀ (waits : Fin 8) (n : Nat),
      (n < waits.val + 1 → (Window.answered r).sdo waits n = some 0xEE#8) ∧
      (n < r.packet.length →
        (Window.answered r).sdo waits (waits.val + 1 + n) = r.packet[n]?) ∧
      (Window.answered r).sdo waits (waits.val + 1 + r.packet.length + n) = some 0x00#8) ∧
  [Status.ok, .queued, .staged, .badPacket, .badCommand, .badArgument, .notAttached,
    .alreadyAttached, .unknownStation, .alreadyEnrolled, .directoryFull, .inUse, .tableFull, .quota,
    .noRoom, .duplicateTag, .notFound, .claimed, .notHolder, .alreadyHeld, .alreadyWaiting,
    .claimTableFull].map Status.code =
    [0x00, 0x01, 0x02, 0x10, 0x11, 0x12, 0x13, 0x14, 0x20, 0x21, 0x22, 0x23, 0x30, 0x31, 0x32, 0x33,
      0x34, 0x40, 0x41, 0x42, 0x43, 0x44] ∧
  ∀ (w : Window) (waits : Fin 8) (n : Nat),
    (w = .receiving → w.sdo waits n = some 0xEE#8) ∧
    (w = .closed ∨ w = .ignored → w.sdo waits n = none) ∧
    ∀ b k, w.sdo waits n = some b → k < 8 → w.sdoBit waits (8 * n + k) = some (b.getLsbD (7 - k))

/-- Every line frame that the protocol admits reads back: the characters written for it, in either
direction and with any NAK reason, are assembled until the last and validate to its kind, S bit,
reason and payload, with no noise flag; the characters of the part's own frames are these with the
head's direction bit 0; and the check is the CRC-8 of the bytes before it, bit by bit. A character
is eleven bits on the line: start bit 0, data bits least significant first, mark bit, stop bit 1;
three equal samples of each are received as the character that was sent. A frame of L payload bytes
is L + 4 characters with no idle time between them, eleven bit times each. In SENDING these are the
bits of TXD, which is at 1 outside SENDING; and the bit rate is its rate code's (R104, R105, R111,
R114, R118, R170, R171). A station takes the part's frames to it and to address 0 whole and no
others, answers no broadcast, and its replies open with a head that matches it (R110, R172). -/
def Obligations.LineFramesReadBack : Prop :=
  (∀ (head : Byte) (kind : FrameKind) (sBit : Bool) (reason : Nat) (payload : List Byte)
      (line : List Character),
    kind.allowsLength payload.length = true → (reason = 0 ∨ (kind = .nak ∧ reason ≤ 7)) →
    line = frameCharacters (frameBytes head kind sBit reason payload) →
    (∀ k, 1 ≤ k → k < line.length → assemblyStep (line.take k) = .more) ∧
    assemblyStep line = .complete ∧
    validate line =
      .frame { kind := kind, sBit := sBit, reason := reason, payload := payload
               noise := false }) ∧
  (∀ f : Frame,
    f.characters = frameCharacters (frameBytes (byteOf f.address) f.kind f.sBit 0 f.payload)) ∧
  (∀ (data : Byte) (mark : Bool),
    (CharSamples.clean data mark).character =
      some { data := data, mark := mark, framing := false, noise := false }) ∧
  (∀ (c : Character) (x : CharSamples),
    c.lineBits =
      [false, c.data.getLsbD 0, c.data.getLsbD 1, c.data.getLsbD 2, c.data.getLsbD 3,
        c.data.getLsbD 4, c.data.getLsbD 5, c.data.getLsbD 6, c.data.getLsbD 7, c.mark, true] ∧
    (x = .clean c.data c.mark ↔
      [x.start, x.d0, x.d1, x.d2, x.d3, x.d4, x.d5, x.d6, x.d7, x.mark, x.stop] =
        c.lineBits.map (fun v => BitSamples.mk v v v))) ∧
  (∀ f : Frame,
    f.characters.length = f.payload.length + 4 ∧
    f.lineBits.length = 11 * (f.payload.length + 4) ∧
    ∀ (i : Nat) (c : Character), f.characters[i]? = some c →
      ∀ k, k < 11 → f.lineBits[11 * i + k]? = c.lineBits[k]?) ∧
  (∀ (s : State) (n : Nat),
    (s.engine.phase ≠ .sending → s.txd n = true) ∧
    ∀ f, s.engine.phase = .sending → s.engine.exchange = some f → n < f.lineBits.length →
      f.lineBits[n]? = some (s.txd n)) ∧
  (∀ c : LineConfig,
    [0, 1, 2, 3, 4, 5, 6, 7].map (fun code => ({ c with rateCode := code } : LineConfig).bitRate) =
      [9600, 19200, 38400, 57600, 115200, 250000, 500000, 1000000]) ∧
  (∀ (st : FieldStation) (f : Frame) (noIdle : Bool), 1 ≤ st.address → st.address ≤ 126 →
    f.address ≤ 126 → f.kind.allowsLength f.payload.length = true →
    st.takes noIdle f.characters =
      (if noIdle = true ∧ (f.address = st.address ∨ f.address = 0) then
        some { kind := f.kind, sBit := f.sBit, reason := 0, payload := f.payload, noise := false }
      else none) ∧
    ∀ k, k < f.characters.length → st.takes noIdle (f.characters.take k) = none) ∧
  (∀ (st : FieldStation) (will : StationWill) (noIdle : Bool) (line : List Character),
    (st.takes noIdle line = none →
      st.hears will noIdle line = { station := st, acted := none, reply := none }) ∧
    ((∃ c ∈ line, c.framing = true) → st.takes noIdle line = none) ∧
    ∀ f, st.takes noIdle line = some f →
      (line.head?.map (fun c => c.data.toNat) = some 0 →
        (st.hears will noIdle line).station = st ∧ (st.hears will noIdle line).reply = none) ∧
      (line.head?.map (fun c => c.data.toNat) = some st.address → st.address ≠ 0 →
        st.hears will noIdle line = st.takeFrame will f)) ∧
  (∀ (st : FieldStation) (r : Reply), 1 ≤ st.address → st.address ≤ 126 →
    ∃ head rest, st.replyCharacters r = head :: rest ∧ head.isHead = true ∧
      head.matchesStation st.address = true) ∧
  crc8 [] = 0#8 ∧
  ∀ (bytes : List Byte) (b : Byte),
    crc8 (bytes ++ [b]) =
      (fun c : Byte => if c.getLsbD 7 then (c <<< 1) ^^^ 0x07#8 else c <<< 1)^[8]
        (crc8 bytes ^^^ b)

/-! ### Invariants that every step keeps -/

/-- The tables keep their ranges and capacities. -/
def Obligations.StepsKeepTheTables : Prop :=
  ∀ s t : State, s.TablesOk → step s = .next t → t.TablesOk

/-- The engine's fields agree with its state: DE is asserted exactly in SENDING, an exchange is in
progress exactly in SENDING, TURNAROUND, LISTENING and RECEIVING, no set stays staged in IDLE, and
the configuration stays in its ranges. -/
def Obligations.StepsKeepTheEngine : Prop :=
  ∀ s t : State, s.EngineOk → step s = .next t → t.EngineOk

/-- Notices plus units never exceed 16, and the reservation count is one for each slot owned, one
for each claim held and two for each wait (R137, R139), while the slot that the transaction in progress
names is on the line (R40, R80). -/
def Obligations.StepsKeepTheAccounts : Prop :=
  ∀ s t : State, s.AccountsOk → step s = .next t → t.AccountsOk

/-- Every report buffer's reference count is the number of event-queue notices that refer to it, and
it is free exactly when that is 0 (R123). -/
def Obligations.StepsKeepTheReferences : Prop :=
  ∀ s t : State, s.StoreOk → step s = .next t → t.StoreOk

/-- Every step keeps a sound state sound, group by group of Sys2Proof/Safety.lean: the transaction,
the engine, the line state and the slot on the line among them. -/
def Obligations.StepsKeepSoundness : Prop :=
  ∀ s t : State, s.Sound → step s = .next t → t.Sound

/-! ### Rules of the whole part -/

/-- The active configuration changes at three happenings alone: a SET_LINE while the engine is IDLE,
the end of the inter-frame gap, where the staged set becomes active, and device reset (R106, R120).
-/
def Obligations.ConfigurationChangesInIdleAlone : Prop :=
  ∀ (c : Instr) (s t : State), exec c s = .next t → t.engine.active ≠ s.engine.active →
    c = .deviceReset ∨
    (c = .interFrameGapEnd ∧ s.engine.phase = .gap ∧
      t.engine.active = s.engine.staged.getD s.engine.active) ∨
    (∃ p body, c = .setLine p body ∧ s.engine.phase = .idle ∧ s.Controls p ∧
      t.engine.staged = none)

/-- Event queues are first in, first out, and a notice once admitted does not change: after any
command but device reset a port's queue is what it held, without its oldest notice after a
NEXT_EVENT, with notices added at the end; or it has been flushed by the port's teardown (R138,
R149). -/
def Obligations.QueuesAreFirstInFirstOut : Prop :=
  ∀ (c : Instr) (s t : State) (p : Port), c ≠ .deviceReset → exec c s = .next t →
    (∃ new, (t.queues.get p).notices = (s.queues.get p).notices ++ new) ∨
    (∃ body, c = .nextEvent p body ∧
      (t.queues.get p).notices = (s.queues.get p).notices.tail) ∨
    ((c = .lapse p ∨ c = .timebaseTick ∨ ∃ body, c = .detach p body) ∧
      t.isAttached p = false ∧ (t.queues.get p).notices = [])

/-- A port's session state changes by ATTACH, DETACH or LAPSE of that port, by a tick that reaches
the last millisecond of its lapse timer, or by device reset, and by nothing else; and no command but
one on the port itself, its select line or device reset changes the phase of its exchange (R152,
R153, R158). -/
def Obligations.PortsAreIndependent : Prop :=
  ∀ (c : Instr) (s t : State) (p : Port), exec c s = .next t →
    ((t.records.get p).session ≠ (s.records.get p).session →
      c = .deviceReset ∨ c = .lapse p ∨ (∃ body, c = .attach p body) ∨
        (∃ body, c = .detach p body) ∨
        (c = .timebaseTick ∧ ∃ n ∈ (s.records.get p).timer, n ≤ 1)) ∧
    (t.windows.get p ≠ s.windows.get p →
      c = .deviceReset ∨ c = .selectFalls p ∨ c = .selectRises p ∨
        (∃ bytes, c = .badPacket p bytes) ∨ (∃ bytes, c = .fragment p bytes) ∨
        ∃ code body, c.packetParts = some (p, code, body))

end
end

