-- ==== Sys2Proof/Laws/FieldStations.lean ====
section
/-! SUPPORT. What a station's operations can do, each said once. -/

namespace Sys2Proof.Machine

/-- A station takes a frame only whole, without idle time, valid, and with a head to it or to address
0. -/
theorem FieldStation.takes_cases {st : FieldStation} {noIdle : Bool} {line : List Character}
    {f : Reply} (h : st.takes noIdle line = some f) :
    ∃ head rest, line = head :: rest ∧ noIdle = true ∧ head.isHead = true ∧
      head.data.getLsbD 7 = false ∧ (head.data.toNat = st.address ∨ head.data.toNat = 0) ∧
      assemblyStep line = .complete ∧ validate line = .frame f := by
  unfold FieldStation.takes at h
  split at h
  · cases h
  · split at h
    · rename_i head rest hc
      split at h
      · cases h
        simp_all
      all_goals cases h
    · cases h

/-- A SEND taken moves the send bit past its S and is acknowledged, or leaves the station as it is and
is refused. Only a new SEND is acted on. -/
theorem FieldStation.takeSend_cases (st : FieldStation) (will : StationWill) (sBit : Bool)
    (payload : List Byte) :
    (∃ acted, st.takeSend will sBit payload =
        { station := { st with sendBit := !sBit }, acted := acted
          reply := some (stationReply .ack sBit 0 []) } ∧
      (acted = some payload ∧ sBit = st.sendBit ∨ acted = none ∧ sBit ≠ st.sendBit)) ∨
    ∃ reason, will.sendNak = some reason ∧ sBit = st.sendBit ∧
      st.takeSend will sBit payload =
        { station := st, acted := none
          reply := some (stationReply .nak false reason []) } := by
  obtain ⟨address, sendBit, reportBit, reports⟩ := st
  obtain ⟨nak, fetchNak, fetchData⟩ := will
  cases nak <;> cases sBit <;> cases sendBit <;> simp [FieldStation.takeSend]

/-- After a POLL the report bit is the POLL's S. -/
@[simp] theorem FieldStation.takePoll_reportBit (st : FieldStation) (sBit : Bool) :
    (st.takePoll sBit).station.reportBit = sBit := by
  by_cases h : sBit = st.reportBit <;> simp [FieldStation.takePoll, h]

/-- No frame changes a station's address. -/
@[simp] theorem FieldStation.takeFrame_address (st : FieldStation) (will : StationWill) (f : Reply) :
    (st.takeFrame will f).station.address = st.address := by
  unfold FieldStation.takeFrame FieldStation.takeSend FieldStation.takePoll
  repeat' split
  all_goals rfl

end Sys2Proof.Machine
end

