-- ==== Sys2Proof/Laws/State.lean ====
section
/-! SUPPORT. What each update of the state leaves in each field, and the laws of a value per port. -/

namespace Sys2Proof.Machine

/-! ### One field replaced -/

@[simp] theorem State.withResetLow_resetLow (s : State) (x : Bool) :
    (s.withResetLow x).resetLow = x := rfl

@[simp] theorem State.withResetLow_timebase (s : State) (x : Bool) :
    (s.withResetLow x).timebase = s.timebase := rfl

@[simp] theorem State.withResetLow_ticked (s : State) (x : Bool) :
    (s.withResetLow x).ticked = s.ticked := rfl

@[simp] theorem State.withResetLow_records (s : State) (x : Bool) :
    (s.withResetLow x).records = s.records := rfl

@[simp] theorem State.withResetLow_windows (s : State) (x : Bool) :
    (s.withResetLow x).windows = s.windows := rfl

@[simp] theorem State.withResetLow_queues (s : State) (x : Bool) :
    (s.withResetLow x).queues = s.queues := rfl

@[simp] theorem State.withResetLow_directory (s : State) (x : Bool) :
    (s.withResetLow x).directory = s.directory := rfl

@[simp] theorem State.withResetLow_claims (s : State) (x : Bool) :
    (s.withResetLow x).claims = s.claims := rfl

@[simp] theorem State.withResetLow_slots (s : State) (x : Bool) :
    (s.withResetLow x).slots = s.slots := rfl

@[simp] theorem State.withResetLow_lists (s : State) (x : Bool) :
    (s.withResetLow x).lists = s.lists := rfl

@[simp] theorem State.withResetLow_scheduler (s : State) (x : Bool) :
    (s.withResetLow x).scheduler = s.scheduler := rfl

@[simp] theorem State.withResetLow_transaction (s : State) (x : Bool) :
    (s.withResetLow x).transaction = s.transaction := rfl

@[simp] theorem State.withResetLow_engine (s : State) (x : Bool) :
    (s.withResetLow x).engine = s.engine := rfl

@[simp] theorem State.withResetLow_buffers (s : State) (x : Bool) :
    (s.withResetLow x).buffers = s.buffers := rfl

@[simp] theorem State.withResetLow_picks (s : State) (x : Bool) :
    (s.withResetLow x).picks = s.picks := rfl

@[simp] theorem State.withResetLow_pending (s : State) (x : Bool) :
    (s.withResetLow x).pending = s.pending := rfl

@[simp] theorem State.withTimebase_resetLow (s : State) (x : Nat) :
    (s.withTimebase x).resetLow = s.resetLow := rfl

@[simp] theorem State.withTimebase_timebase (s : State) (x : Nat) :
    (s.withTimebase x).timebase = x := rfl

@[simp] theorem State.withTimebase_ticked (s : State) (x : Nat) :
    (s.withTimebase x).ticked = s.ticked := rfl

@[simp] theorem State.withTimebase_records (s : State) (x : Nat) :
    (s.withTimebase x).records = s.records := rfl

@[simp] theorem State.withTimebase_windows (s : State) (x : Nat) :
    (s.withTimebase x).windows = s.windows := rfl

@[simp] theorem State.withTimebase_queues (s : State) (x : Nat) :
    (s.withTimebase x).queues = s.queues := rfl

@[simp] theorem State.withTimebase_directory (s : State) (x : Nat) :
    (s.withTimebase x).directory = s.directory := rfl

@[simp] theorem State.withTimebase_claims (s : State) (x : Nat) :
    (s.withTimebase x).claims = s.claims := rfl

@[simp] theorem State.withTimebase_slots (s : State) (x : Nat) :
    (s.withTimebase x).slots = s.slots := rfl

@[simp] theorem State.withTimebase_lists (s : State) (x : Nat) :
    (s.withTimebase x).lists = s.lists := rfl

@[simp] theorem State.withTimebase_scheduler (s : State) (x : Nat) :
    (s.withTimebase x).scheduler = s.scheduler := rfl

@[simp] theorem State.withTimebase_transaction (s : State) (x : Nat) :
    (s.withTimebase x).transaction = s.transaction := rfl

@[simp] theorem State.withTimebase_engine (s : State) (x : Nat) :
    (s.withTimebase x).engine = s.engine := rfl

@[simp] theorem State.withTimebase_buffers (s : State) (x : Nat) :
    (s.withTimebase x).buffers = s.buffers := rfl

@[simp] theorem State.withTimebase_picks (s : State) (x : Nat) :
    (s.withTimebase x).picks = s.picks := rfl

@[simp] theorem State.withTimebase_pending (s : State) (x : Nat) :
    (s.withTimebase x).pending = s.pending := rfl

@[simp] theorem State.withTicked_resetLow (s : State) (x : Ticked) :
    (s.withTicked x).resetLow = s.resetLow := rfl

@[simp] theorem State.withTicked_timebase (s : State) (x : Ticked) :
    (s.withTicked x).timebase = s.timebase := rfl

@[simp] theorem State.withTicked_ticked (s : State) (x : Ticked) :
    (s.withTicked x).ticked = x := rfl

@[simp] theorem State.withTicked_records (s : State) (x : Ticked) :
    (s.withTicked x).records = s.records := rfl

@[simp] theorem State.withTicked_windows (s : State) (x : Ticked) :
    (s.withTicked x).windows = s.windows := rfl

@[simp] theorem State.withTicked_queues (s : State) (x : Ticked) :
    (s.withTicked x).queues = s.queues := rfl

@[simp] theorem State.withTicked_directory (s : State) (x : Ticked) :
    (s.withTicked x).directory = s.directory := rfl

@[simp] theorem State.withTicked_claims (s : State) (x : Ticked) :
    (s.withTicked x).claims = s.claims := rfl

@[simp] theorem State.withTicked_slots (s : State) (x : Ticked) :
    (s.withTicked x).slots = s.slots := rfl

@[simp] theorem State.withTicked_lists (s : State) (x : Ticked) :
    (s.withTicked x).lists = s.lists := rfl

@[simp] theorem State.withTicked_scheduler (s : State) (x : Ticked) :
    (s.withTicked x).scheduler = s.scheduler := rfl

@[simp] theorem State.withTicked_transaction (s : State) (x : Ticked) :
    (s.withTicked x).transaction = s.transaction := rfl

@[simp] theorem State.withTicked_engine (s : State) (x : Ticked) :
    (s.withTicked x).engine = s.engine := rfl

@[simp] theorem State.withTicked_buffers (s : State) (x : Ticked) :
    (s.withTicked x).buffers = s.buffers := rfl

@[simp] theorem State.withTicked_picks (s : State) (x : Ticked) :
    (s.withTicked x).picks = s.picks := rfl

@[simp] theorem State.withTicked_pending (s : State) (x : Ticked) :
    (s.withTicked x).pending = s.pending := rfl

@[simp] theorem State.withRecords_resetLow (s : State) (x : PerPort PortRecord) :
    (s.withRecords x).resetLow = s.resetLow := rfl

@[simp] theorem State.withRecords_timebase (s : State) (x : PerPort PortRecord) :
    (s.withRecords x).timebase = s.timebase := rfl

@[simp] theorem State.withRecords_ticked (s : State) (x : PerPort PortRecord) :
    (s.withRecords x).ticked = s.ticked := rfl

@[simp] theorem State.withRecords_records (s : State) (x : PerPort PortRecord) :
    (s.withRecords x).records = x := rfl

@[simp] theorem State.withRecords_windows (s : State) (x : PerPort PortRecord) :
    (s.withRecords x).windows = s.windows := rfl

@[simp] theorem State.withRecords_queues (s : State) (x : PerPort PortRecord) :
    (s.withRecords x).queues = s.queues := rfl

@[simp] theorem State.withRecords_directory (s : State) (x : PerPort PortRecord) :
    (s.withRecords x).directory = s.directory := rfl

@[simp] theorem State.withRecords_claims (s : State) (x : PerPort PortRecord) :
    (s.withRecords x).claims = s.claims := rfl

@[simp] theorem State.withRecords_slots (s : State) (x : PerPort PortRecord) :
    (s.withRecords x).slots = s.slots := rfl

@[simp] theorem State.withRecords_lists (s : State) (x : PerPort PortRecord) :
    (s.withRecords x).lists = s.lists := rfl

@[simp] theorem State.withRecords_scheduler (s : State) (x : PerPort PortRecord) :
    (s.withRecords x).scheduler = s.scheduler := rfl

@[simp] theorem State.withRecords_transaction (s : State) (x : PerPort PortRecord) :
    (s.withRecords x).transaction = s.transaction := rfl

@[simp] theorem State.withRecords_engine (s : State) (x : PerPort PortRecord) :
    (s.withRecords x).engine = s.engine := rfl

@[simp] theorem State.withRecords_buffers (s : State) (x : PerPort PortRecord) :
    (s.withRecords x).buffers = s.buffers := rfl

@[simp] theorem State.withRecords_picks (s : State) (x : PerPort PortRecord) :
    (s.withRecords x).picks = s.picks := rfl

@[simp] theorem State.withRecords_pending (s : State) (x : PerPort PortRecord) :
    (s.withRecords x).pending = s.pending := rfl

@[simp] theorem State.withWindows_resetLow (s : State) (x : PerPort Window) :
    (s.withWindows x).resetLow = s.resetLow := rfl

@[simp] theorem State.withWindows_timebase (s : State) (x : PerPort Window) :
    (s.withWindows x).timebase = s.timebase := rfl

@[simp] theorem State.withWindows_ticked (s : State) (x : PerPort Window) :
    (s.withWindows x).ticked = s.ticked := rfl

@[simp] theorem State.withWindows_records (s : State) (x : PerPort Window) :
    (s.withWindows x).records = s.records := rfl

@[simp] theorem State.withWindows_windows (s : State) (x : PerPort Window) :
    (s.withWindows x).windows = x := rfl

@[simp] theorem State.withWindows_queues (s : State) (x : PerPort Window) :
    (s.withWindows x).queues = s.queues := rfl

@[simp] theorem State.withWindows_directory (s : State) (x : PerPort Window) :
    (s.withWindows x).directory = s.directory := rfl

@[simp] theorem State.withWindows_claims (s : State) (x : PerPort Window) :
    (s.withWindows x).claims = s.claims := rfl

@[simp] theorem State.withWindows_slots (s : State) (x : PerPort Window) :
    (s.withWindows x).slots = s.slots := rfl

@[simp] theorem State.withWindows_lists (s : State) (x : PerPort Window) :
    (s.withWindows x).lists = s.lists := rfl

@[simp] theorem State.withWindows_scheduler (s : State) (x : PerPort Window) :
    (s.withWindows x).scheduler = s.scheduler := rfl

@[simp] theorem State.withWindows_transaction (s : State) (x : PerPort Window) :
    (s.withWindows x).transaction = s.transaction := rfl

@[simp] theorem State.withWindows_engine (s : State) (x : PerPort Window) :
    (s.withWindows x).engine = s.engine := rfl

@[simp] theorem State.withWindows_buffers (s : State) (x : PerPort Window) :
    (s.withWindows x).buffers = s.buffers := rfl

@[simp] theorem State.withWindows_picks (s : State) (x : PerPort Window) :
    (s.withWindows x).picks = s.picks := rfl

@[simp] theorem State.withWindows_pending (s : State) (x : PerPort Window) :
    (s.withWindows x).pending = s.pending := rfl

@[simp] theorem State.withQueues_resetLow (s : State) (x : PerPort EventQueue) :
    (s.withQueues x).resetLow = s.resetLow := rfl

@[simp] theorem State.withQueues_timebase (s : State) (x : PerPort EventQueue) :
    (s.withQueues x).timebase = s.timebase := rfl

@[simp] theorem State.withQueues_ticked (s : State) (x : PerPort EventQueue) :
    (s.withQueues x).ticked = s.ticked := rfl

@[simp] theorem State.withQueues_records (s : State) (x : PerPort EventQueue) :
    (s.withQueues x).records = s.records := rfl

@[simp] theorem State.withQueues_windows (s : State) (x : PerPort EventQueue) :
    (s.withQueues x).windows = s.windows := rfl

@[simp] theorem State.withQueues_queues (s : State) (x : PerPort EventQueue) :
    (s.withQueues x).queues = x := rfl

@[simp] theorem State.withQueues_directory (s : State) (x : PerPort EventQueue) :
    (s.withQueues x).directory = s.directory := rfl

@[simp] theorem State.withQueues_claims (s : State) (x : PerPort EventQueue) :
    (s.withQueues x).claims = s.claims := rfl

@[simp] theorem State.withQueues_slots (s : State) (x : PerPort EventQueue) :
    (s.withQueues x).slots = s.slots := rfl

@[simp] theorem State.withQueues_lists (s : State) (x : PerPort EventQueue) :
    (s.withQueues x).lists = s.lists := rfl

@[simp] theorem State.withQueues_scheduler (s : State) (x : PerPort EventQueue) :
    (s.withQueues x).scheduler = s.scheduler := rfl

@[simp] theorem State.withQueues_transaction (s : State) (x : PerPort EventQueue) :
    (s.withQueues x).transaction = s.transaction := rfl

@[simp] theorem State.withQueues_engine (s : State) (x : PerPort EventQueue) :
    (s.withQueues x).engine = s.engine := rfl

@[simp] theorem State.withQueues_buffers (s : State) (x : PerPort EventQueue) :
    (s.withQueues x).buffers = s.buffers := rfl

@[simp] theorem State.withQueues_picks (s : State) (x : PerPort EventQueue) :
    (s.withQueues x).picks = s.picks := rfl

@[simp] theorem State.withQueues_pending (s : State) (x : PerPort EventQueue) :
    (s.withQueues x).pending = s.pending := rfl

@[simp] theorem State.withDirectory_resetLow (s : State) (x : List StationEntry) :
    (s.withDirectory x).resetLow = s.resetLow := rfl

@[simp] theorem State.withDirectory_timebase (s : State) (x : List StationEntry) :
    (s.withDirectory x).timebase = s.timebase := rfl

@[simp] theorem State.withDirectory_ticked (s : State) (x : List StationEntry) :
    (s.withDirectory x).ticked = s.ticked := rfl

@[simp] theorem State.withDirectory_records (s : State) (x : List StationEntry) :
    (s.withDirectory x).records = s.records := rfl

@[simp] theorem State.withDirectory_windows (s : State) (x : List StationEntry) :
    (s.withDirectory x).windows = s.windows := rfl

@[simp] theorem State.withDirectory_queues (s : State) (x : List StationEntry) :
    (s.withDirectory x).queues = s.queues := rfl

@[simp] theorem State.withDirectory_directory (s : State) (x : List StationEntry) :
    (s.withDirectory x).directory = x := rfl

@[simp] theorem State.withDirectory_claims (s : State) (x : List StationEntry) :
    (s.withDirectory x).claims = s.claims := rfl

@[simp] theorem State.withDirectory_slots (s : State) (x : List StationEntry) :
    (s.withDirectory x).slots = s.slots := rfl

@[simp] theorem State.withDirectory_lists (s : State) (x : List StationEntry) :
    (s.withDirectory x).lists = s.lists := rfl

@[simp] theorem State.withDirectory_scheduler (s : State) (x : List StationEntry) :
    (s.withDirectory x).scheduler = s.scheduler := rfl

@[simp] theorem State.withDirectory_transaction (s : State) (x : List StationEntry) :
    (s.withDirectory x).transaction = s.transaction := rfl

@[simp] theorem State.withDirectory_engine (s : State) (x : List StationEntry) :
    (s.withDirectory x).engine = s.engine := rfl

@[simp] theorem State.withDirectory_buffers (s : State) (x : List StationEntry) :
    (s.withDirectory x).buffers = s.buffers := rfl

@[simp] theorem State.withDirectory_picks (s : State) (x : List StationEntry) :
    (s.withDirectory x).picks = s.picks := rfl

@[simp] theorem State.withDirectory_pending (s : State) (x : List StationEntry) :
    (s.withDirectory x).pending = s.pending := rfl

@[simp] theorem State.withClaims_resetLow (s : State) (x : List ClaimRecord) :
    (s.withClaims x).resetLow = s.resetLow := rfl

@[simp] theorem State.withClaims_timebase (s : State) (x : List ClaimRecord) :
    (s.withClaims x).timebase = s.timebase := rfl

@[simp] theorem State.withClaims_ticked (s : State) (x : List ClaimRecord) :
    (s.withClaims x).ticked = s.ticked := rfl

@[simp] theorem State.withClaims_records (s : State) (x : List ClaimRecord) :
    (s.withClaims x).records = s.records := rfl

@[simp] theorem State.withClaims_windows (s : State) (x : List ClaimRecord) :
    (s.withClaims x).windows = s.windows := rfl

@[simp] theorem State.withClaims_queues (s : State) (x : List ClaimRecord) :
    (s.withClaims x).queues = s.queues := rfl

@[simp] theorem State.withClaims_directory (s : State) (x : List ClaimRecord) :
    (s.withClaims x).directory = s.directory := rfl

@[simp] theorem State.withClaims_claims (s : State) (x : List ClaimRecord) :
    (s.withClaims x).claims = x := rfl

@[simp] theorem State.withClaims_slots (s : State) (x : List ClaimRecord) :
    (s.withClaims x).slots = s.slots := rfl

@[simp] theorem State.withClaims_lists (s : State) (x : List ClaimRecord) :
    (s.withClaims x).lists = s.lists := rfl

@[simp] theorem State.withClaims_scheduler (s : State) (x : List ClaimRecord) :
    (s.withClaims x).scheduler = s.scheduler := rfl

@[simp] theorem State.withClaims_transaction (s : State) (x : List ClaimRecord) :
    (s.withClaims x).transaction = s.transaction := rfl

@[simp] theorem State.withClaims_engine (s : State) (x : List ClaimRecord) :
    (s.withClaims x).engine = s.engine := rfl

@[simp] theorem State.withClaims_buffers (s : State) (x : List ClaimRecord) :
    (s.withClaims x).buffers = s.buffers := rfl

@[simp] theorem State.withClaims_picks (s : State) (x : List ClaimRecord) :
    (s.withClaims x).picks = s.picks := rfl

@[simp] theorem State.withClaims_pending (s : State) (x : List ClaimRecord) :
    (s.withClaims x).pending = s.pending := rfl

@[simp] theorem State.withSlots_resetLow (s : State) (x : List Slot) :
    (s.withSlots x).resetLow = s.resetLow := rfl

@[simp] theorem State.withSlots_timebase (s : State) (x : List Slot) :
    (s.withSlots x).timebase = s.timebase := rfl

@[simp] theorem State.withSlots_ticked (s : State) (x : List Slot) :
    (s.withSlots x).ticked = s.ticked := rfl

@[simp] theorem State.withSlots_records (s : State) (x : List Slot) :
    (s.withSlots x).records = s.records := rfl

@[simp] theorem State.withSlots_windows (s : State) (x : List Slot) :
    (s.withSlots x).windows = s.windows := rfl

@[simp] theorem State.withSlots_queues (s : State) (x : List Slot) :
    (s.withSlots x).queues = s.queues := rfl

@[simp] theorem State.withSlots_directory (s : State) (x : List Slot) :
    (s.withSlots x).directory = s.directory := rfl

@[simp] theorem State.withSlots_claims (s : State) (x : List Slot) :
    (s.withSlots x).claims = s.claims := rfl

@[simp] theorem State.withSlots_slots (s : State) (x : List Slot) :
    (s.withSlots x).slots = x := rfl

@[simp] theorem State.withSlots_lists (s : State) (x : List Slot) :
    (s.withSlots x).lists = s.lists := rfl

@[simp] theorem State.withSlots_scheduler (s : State) (x : List Slot) :
    (s.withSlots x).scheduler = s.scheduler := rfl

@[simp] theorem State.withSlots_transaction (s : State) (x : List Slot) :
    (s.withSlots x).transaction = s.transaction := rfl

@[simp] theorem State.withSlots_engine (s : State) (x : List Slot) :
    (s.withSlots x).engine = s.engine := rfl

@[simp] theorem State.withSlots_buffers (s : State) (x : List Slot) :
    (s.withSlots x).buffers = s.buffers := rfl

@[simp] theorem State.withSlots_picks (s : State) (x : List Slot) :
    (s.withSlots x).picks = s.picks := rfl

@[simp] theorem State.withSlots_pending (s : State) (x : List Slot) :
    (s.withSlots x).pending = s.pending := rfl

@[simp] theorem State.withLists_resetLow (s : State) (x : PerPort (List Nat)) :
    (s.withLists x).resetLow = s.resetLow := rfl

@[simp] theorem State.withLists_timebase (s : State) (x : PerPort (List Nat)) :
    (s.withLists x).timebase = s.timebase := rfl

@[simp] theorem State.withLists_ticked (s : State) (x : PerPort (List Nat)) :
    (s.withLists x).ticked = s.ticked := rfl

@[simp] theorem State.withLists_records (s : State) (x : PerPort (List Nat)) :
    (s.withLists x).records = s.records := rfl

@[simp] theorem State.withLists_windows (s : State) (x : PerPort (List Nat)) :
    (s.withLists x).windows = s.windows := rfl

@[simp] theorem State.withLists_queues (s : State) (x : PerPort (List Nat)) :
    (s.withLists x).queues = s.queues := rfl

@[simp] theorem State.withLists_directory (s : State) (x : PerPort (List Nat)) :
    (s.withLists x).directory = s.directory := rfl

@[simp] theorem State.withLists_claims (s : State) (x : PerPort (List Nat)) :
    (s.withLists x).claims = s.claims := rfl

@[simp] theorem State.withLists_slots (s : State) (x : PerPort (List Nat)) :
    (s.withLists x).slots = s.slots := rfl

@[simp] theorem State.withLists_lists (s : State) (x : PerPort (List Nat)) :
    (s.withLists x).lists = x := rfl

@[simp] theorem State.withLists_scheduler (s : State) (x : PerPort (List Nat)) :
    (s.withLists x).scheduler = s.scheduler := rfl

@[simp] theorem State.withLists_transaction (s : State) (x : PerPort (List Nat)) :
    (s.withLists x).transaction = s.transaction := rfl

@[simp] theorem State.withLists_engine (s : State) (x : PerPort (List Nat)) :
    (s.withLists x).engine = s.engine := rfl

@[simp] theorem State.withLists_buffers (s : State) (x : PerPort (List Nat)) :
    (s.withLists x).buffers = s.buffers := rfl

@[simp] theorem State.withLists_picks (s : State) (x : PerPort (List Nat)) :
    (s.withLists x).picks = s.picks := rfl

@[simp] theorem State.withLists_pending (s : State) (x : PerPort (List Nat)) :
    (s.withLists x).pending = s.pending := rfl

@[simp] theorem State.withScheduler_resetLow (s : State) (x : Scheduler) :
    (s.withScheduler x).resetLow = s.resetLow := rfl

@[simp] theorem State.withScheduler_timebase (s : State) (x : Scheduler) :
    (s.withScheduler x).timebase = s.timebase := rfl

@[simp] theorem State.withScheduler_ticked (s : State) (x : Scheduler) :
    (s.withScheduler x).ticked = s.ticked := rfl

@[simp] theorem State.withScheduler_records (s : State) (x : Scheduler) :
    (s.withScheduler x).records = s.records := rfl

@[simp] theorem State.withScheduler_windows (s : State) (x : Scheduler) :
    (s.withScheduler x).windows = s.windows := rfl

@[simp] theorem State.withScheduler_queues (s : State) (x : Scheduler) :
    (s.withScheduler x).queues = s.queues := rfl

@[simp] theorem State.withScheduler_directory (s : State) (x : Scheduler) :
    (s.withScheduler x).directory = s.directory := rfl

@[simp] theorem State.withScheduler_claims (s : State) (x : Scheduler) :
    (s.withScheduler x).claims = s.claims := rfl

@[simp] theorem State.withScheduler_slots (s : State) (x : Scheduler) :
    (s.withScheduler x).slots = s.slots := rfl

@[simp] theorem State.withScheduler_lists (s : State) (x : Scheduler) :
    (s.withScheduler x).lists = s.lists := rfl

@[simp] theorem State.withScheduler_scheduler (s : State) (x : Scheduler) :
    (s.withScheduler x).scheduler = x := rfl

@[simp] theorem State.withScheduler_transaction (s : State) (x : Scheduler) :
    (s.withScheduler x).transaction = s.transaction := rfl

@[simp] theorem State.withScheduler_engine (s : State) (x : Scheduler) :
    (s.withScheduler x).engine = s.engine := rfl

@[simp] theorem State.withScheduler_buffers (s : State) (x : Scheduler) :
    (s.withScheduler x).buffers = s.buffers := rfl

@[simp] theorem State.withScheduler_picks (s : State) (x : Scheduler) :
    (s.withScheduler x).picks = s.picks := rfl

@[simp] theorem State.withScheduler_pending (s : State) (x : Scheduler) :
    (s.withScheduler x).pending = s.pending := rfl

@[simp] theorem State.withTransaction_resetLow (s : State) (x : Option Transaction) :
    (s.withTransaction x).resetLow = s.resetLow := rfl

@[simp] theorem State.withTransaction_timebase (s : State) (x : Option Transaction) :
    (s.withTransaction x).timebase = s.timebase := rfl

@[simp] theorem State.withTransaction_ticked (s : State) (x : Option Transaction) :
    (s.withTransaction x).ticked = s.ticked := rfl

@[simp] theorem State.withTransaction_records (s : State) (x : Option Transaction) :
    (s.withTransaction x).records = s.records := rfl

@[simp] theorem State.withTransaction_windows (s : State) (x : Option Transaction) :
    (s.withTransaction x).windows = s.windows := rfl

@[simp] theorem State.withTransaction_queues (s : State) (x : Option Transaction) :
    (s.withTransaction x).queues = s.queues := rfl

@[simp] theorem State.withTransaction_directory (s : State) (x : Option Transaction) :
    (s.withTransaction x).directory = s.directory := rfl

@[simp] theorem State.withTransaction_claims (s : State) (x : Option Transaction) :
    (s.withTransaction x).claims = s.claims := rfl

@[simp] theorem State.withTransaction_slots (s : State) (x : Option Transaction) :
    (s.withTransaction x).slots = s.slots := rfl

@[simp] theorem State.withTransaction_lists (s : State) (x : Option Transaction) :
    (s.withTransaction x).lists = s.lists := rfl

@[simp] theorem State.withTransaction_scheduler (s : State) (x : Option Transaction) :
    (s.withTransaction x).scheduler = s.scheduler := rfl

@[simp] theorem State.withTransaction_transaction (s : State) (x : Option Transaction) :
    (s.withTransaction x).transaction = x := rfl

@[simp] theorem State.withTransaction_engine (s : State) (x : Option Transaction) :
    (s.withTransaction x).engine = s.engine := rfl

@[simp] theorem State.withTransaction_buffers (s : State) (x : Option Transaction) :
    (s.withTransaction x).buffers = s.buffers := rfl

@[simp] theorem State.withTransaction_picks (s : State) (x : Option Transaction) :
    (s.withTransaction x).picks = s.picks := rfl

@[simp] theorem State.withTransaction_pending (s : State) (x : Option Transaction) :
    (s.withTransaction x).pending = s.pending := rfl

@[simp] theorem State.withEngine_resetLow (s : State) (x : Engine) :
    (s.withEngine x).resetLow = s.resetLow := rfl

@[simp] theorem State.withEngine_timebase (s : State) (x : Engine) :
    (s.withEngine x).timebase = s.timebase := rfl

@[simp] theorem State.withEngine_ticked (s : State) (x : Engine) :
    (s.withEngine x).ticked = s.ticked := rfl

@[simp] theorem State.withEngine_records (s : State) (x : Engine) :
    (s.withEngine x).records = s.records := rfl

@[simp] theorem State.withEngine_windows (s : State) (x : Engine) :
    (s.withEngine x).windows = s.windows := rfl

@[simp] theorem State.withEngine_queues (s : State) (x : Engine) :
    (s.withEngine x).queues = s.queues := rfl

@[simp] theorem State.withEngine_directory (s : State) (x : Engine) :
    (s.withEngine x).directory = s.directory := rfl

@[simp] theorem State.withEngine_claims (s : State) (x : Engine) :
    (s.withEngine x).claims = s.claims := rfl

@[simp] theorem State.withEngine_slots (s : State) (x : Engine) :
    (s.withEngine x).slots = s.slots := rfl

@[simp] theorem State.withEngine_lists (s : State) (x : Engine) :
    (s.withEngine x).lists = s.lists := rfl

@[simp] theorem State.withEngine_scheduler (s : State) (x : Engine) :
    (s.withEngine x).scheduler = s.scheduler := rfl

@[simp] theorem State.withEngine_transaction (s : State) (x : Engine) :
    (s.withEngine x).transaction = s.transaction := rfl

@[simp] theorem State.withEngine_engine (s : State) (x : Engine) :
    (s.withEngine x).engine = x := rfl

@[simp] theorem State.withEngine_buffers (s : State) (x : Engine) :
    (s.withEngine x).buffers = s.buffers := rfl

@[simp] theorem State.withEngine_picks (s : State) (x : Engine) :
    (s.withEngine x).picks = s.picks := rfl

@[simp] theorem State.withEngine_pending (s : State) (x : Engine) :
    (s.withEngine x).pending = s.pending := rfl

@[simp] theorem State.withBuffers_resetLow (s : State) (x : List (Option ReportBuffer)) :
    (s.withBuffers x).resetLow = s.resetLow := rfl

@[simp] theorem State.withBuffers_timebase (s : State) (x : List (Option ReportBuffer)) :
    (s.withBuffers x).timebase = s.timebase := rfl

@[simp] theorem State.withBuffers_ticked (s : State) (x : List (Option ReportBuffer)) :
    (s.withBuffers x).ticked = s.ticked := rfl

@[simp] theorem State.withBuffers_records (s : State) (x : List (Option ReportBuffer)) :
    (s.withBuffers x).records = s.records := rfl

@[simp] theorem State.withBuffers_windows (s : State) (x : List (Option ReportBuffer)) :
    (s.withBuffers x).windows = s.windows := rfl

@[simp] theorem State.withBuffers_queues (s : State) (x : List (Option ReportBuffer)) :
    (s.withBuffers x).queues = s.queues := rfl

@[simp] theorem State.withBuffers_directory (s : State) (x : List (Option ReportBuffer)) :
    (s.withBuffers x).directory = s.directory := rfl

@[simp] theorem State.withBuffers_claims (s : State) (x : List (Option ReportBuffer)) :
    (s.withBuffers x).claims = s.claims := rfl

@[simp] theorem State.withBuffers_slots (s : State) (x : List (Option ReportBuffer)) :
    (s.withBuffers x).slots = s.slots := rfl

@[simp] theorem State.withBuffers_lists (s : State) (x : List (Option ReportBuffer)) :
    (s.withBuffers x).lists = s.lists := rfl

@[simp] theorem State.withBuffers_scheduler (s : State) (x : List (Option ReportBuffer)) :
    (s.withBuffers x).scheduler = s.scheduler := rfl

@[simp] theorem State.withBuffers_transaction (s : State) (x : List (Option ReportBuffer)) :
    (s.withBuffers x).transaction = s.transaction := rfl

@[simp] theorem State.withBuffers_engine (s : State) (x : List (Option ReportBuffer)) :
    (s.withBuffers x).engine = s.engine := rfl

@[simp] theorem State.withBuffers_buffers (s : State) (x : List (Option ReportBuffer)) :
    (s.withBuffers x).buffers = x := rfl

@[simp] theorem State.withBuffers_picks (s : State) (x : List (Option ReportBuffer)) :
    (s.withBuffers x).picks = s.picks := rfl

@[simp] theorem State.withBuffers_pending (s : State) (x : List (Option ReportBuffer)) :
    (s.withBuffers x).pending = s.pending := rfl

@[simp] theorem State.withPicks_resetLow (s : State) (x : Nat) :
    (s.withPicks x).resetLow = s.resetLow := rfl

@[simp] theorem State.withPicks_timebase (s : State) (x : Nat) :
    (s.withPicks x).timebase = s.timebase := rfl

@[simp] theorem State.withPicks_ticked (s : State) (x : Nat) :
    (s.withPicks x).ticked = s.ticked := rfl

@[simp] theorem State.withPicks_records (s : State) (x : Nat) :
    (s.withPicks x).records = s.records := rfl

@[simp] theorem State.withPicks_windows (s : State) (x : Nat) :
    (s.withPicks x).windows = s.windows := rfl

@[simp] theorem State.withPicks_queues (s : State) (x : Nat) :
    (s.withPicks x).queues = s.queues := rfl

@[simp] theorem State.withPicks_directory (s : State) (x : Nat) :
    (s.withPicks x).directory = s.directory := rfl

@[simp] theorem State.withPicks_claims (s : State) (x : Nat) :
    (s.withPicks x).claims = s.claims := rfl

@[simp] theorem State.withPicks_slots (s : State) (x : Nat) :
    (s.withPicks x).slots = s.slots := rfl

@[simp] theorem State.withPicks_lists (s : State) (x : Nat) :
    (s.withPicks x).lists = s.lists := rfl

@[simp] theorem State.withPicks_scheduler (s : State) (x : Nat) :
    (s.withPicks x).scheduler = s.scheduler := rfl

@[simp] theorem State.withPicks_transaction (s : State) (x : Nat) :
    (s.withPicks x).transaction = s.transaction := rfl

@[simp] theorem State.withPicks_engine (s : State) (x : Nat) :
    (s.withPicks x).engine = s.engine := rfl

@[simp] theorem State.withPicks_buffers (s : State) (x : Nat) :
    (s.withPicks x).buffers = s.buffers := rfl

@[simp] theorem State.withPicks_picks (s : State) (x : Nat) :
    (s.withPicks x).picks = x := rfl

@[simp] theorem State.withPicks_pending (s : State) (x : Nat) :
    (s.withPicks x).pending = s.pending := rfl

@[simp] theorem State.withPending_resetLow (s : State) (x : List Instr) :
    (s.withPending x).resetLow = s.resetLow := rfl

@[simp] theorem State.withPending_timebase (s : State) (x : List Instr) :
    (s.withPending x).timebase = s.timebase := rfl

@[simp] theorem State.withPending_ticked (s : State) (x : List Instr) :
    (s.withPending x).ticked = s.ticked := rfl

@[simp] theorem State.withPending_records (s : State) (x : List Instr) :
    (s.withPending x).records = s.records := rfl

@[simp] theorem State.withPending_windows (s : State) (x : List Instr) :
    (s.withPending x).windows = s.windows := rfl

@[simp] theorem State.withPending_queues (s : State) (x : List Instr) :
    (s.withPending x).queues = s.queues := rfl

@[simp] theorem State.withPending_directory (s : State) (x : List Instr) :
    (s.withPending x).directory = s.directory := rfl

@[simp] theorem State.withPending_claims (s : State) (x : List Instr) :
    (s.withPending x).claims = s.claims := rfl

@[simp] theorem State.withPending_slots (s : State) (x : List Instr) :
    (s.withPending x).slots = s.slots := rfl

@[simp] theorem State.withPending_lists (s : State) (x : List Instr) :
    (s.withPending x).lists = s.lists := rfl

@[simp] theorem State.withPending_scheduler (s : State) (x : List Instr) :
    (s.withPending x).scheduler = s.scheduler := rfl

@[simp] theorem State.withPending_transaction (s : State) (x : List Instr) :
    (s.withPending x).transaction = s.transaction := rfl

@[simp] theorem State.withPending_engine (s : State) (x : List Instr) :
    (s.withPending x).engine = s.engine := rfl

@[simp] theorem State.withPending_buffers (s : State) (x : List Instr) :
    (s.withPending x).buffers = s.buffers := rfl

@[simp] theorem State.withPending_picks (s : State) (x : List Instr) :
    (s.withPending x).picks = s.picks := rfl

@[simp] theorem State.withPending_pending (s : State) (x : List Instr) :
    (s.withPending x).pending = x := rfl

/-! ### A value per port -/

@[simp] theorem PerPort.get_set_self {α : Type} (m : PerPort α) (p : Port) (x : α) :
    (m.set p x).get p = x := by cases p <;> rfl

theorem PerPort.get_set_ne {α : Type} (m : PerPort α) {p q : Port} (h : q ≠ p) (x : α) :
    (m.set p x).get q = m.get q := by cases p <;> cases q <;> first | rfl | exact absurd rfl h

theorem PerPort.get_set {α : Type} (m : PerPort α) (p q : Port) (x : α) :
    (m.set p x).get q = if q = p then x else m.get q := by
  by_cases h : q = p
  · subst h; simp
  · simp [h, PerPort.get_set_ne m h]

@[simp] theorem PerPort.get_map {α β : Type} (m : PerPort α) (f : α → β) (p : Port) :
    (m.map f).get p = f (m.get p) := by cases p <;> rfl

@[simp] theorem PerPort.set_get {α : Type} (m : PerPort α) (p : Port) :
    m.set p (m.get p) = m := by cases p <;> rfl

@[simp] theorem PerPort.set_set {α : Type} (m : PerPort α) (p : Port) (x y : α) :
    (m.set p x).set p y = m.set p y := by cases p <;> rfl

/-- Two families with the same value at every port are equal. -/
theorem PerPort.ext_get {α : Type} {m n : PerPort α} (h : ∀ p, m.get p = n.get p) : m = n := by
  have ha := h .a
  have hb := h .b
  have hc := h .c
  have hd := h .d
  cases m; cases n
  simp_all [PerPort.get]

@[simp] theorem Port.mem_all (p : Port) : p ∈ Port.all := by cases p <;> decide

/-- Every port stands once in each rotation (R69). -/
@[simp] theorem Port.mem_rotation (p q : Port) : q ∈ p.rotation := by
  cases p <;> cases q <;> decide

end Sys2Proof.Machine
end

