-- ==== Sys2Proof/Laws/Frames.lean ====
section
/-! SUPPORT. Which fields each shared operation over the tables, the queues and the transaction leaves as
they are. -/

namespace Sys2Proof.Machine

/-! ### Ops -/

@[simp] theorem State.onQueue_frame (s : State) (p : Port) (f : EventQueue → EventQueue) :
    (s.onQueue p f).resetLow = s.resetLow ∧
    (s.onQueue p f).timebase = s.timebase ∧
    (s.onQueue p f).ticked = s.ticked ∧
    (s.onQueue p f).records = s.records ∧
    (s.onQueue p f).windows = s.windows ∧
    (s.onQueue p f).directory = s.directory ∧
    (s.onQueue p f).claims = s.claims ∧
    (s.onQueue p f).slots = s.slots ∧
    (s.onQueue p f).lists = s.lists ∧
    (s.onQueue p f).scheduler = s.scheduler ∧
    (s.onQueue p f).transaction = s.transaction ∧
    (s.onQueue p f).engine = s.engine ∧
    (s.onQueue p f).buffers = s.buffers ∧
    (s.onQueue p f).picks = s.picks ∧
    (s.onQueue p f).pending = s.pending := by simp [State.onQueue]

@[simp] theorem State.onRecord_frame (s : State) (p : Port) (f : PortRecord → PortRecord) :
    (s.onRecord p f).resetLow = s.resetLow ∧
    (s.onRecord p f).timebase = s.timebase ∧
    (s.onRecord p f).ticked = s.ticked ∧
    (s.onRecord p f).windows = s.windows ∧
    (s.onRecord p f).queues = s.queues ∧
    (s.onRecord p f).directory = s.directory ∧
    (s.onRecord p f).claims = s.claims ∧
    (s.onRecord p f).slots = s.slots ∧
    (s.onRecord p f).lists = s.lists ∧
    (s.onRecord p f).scheduler = s.scheduler ∧
    (s.onRecord p f).transaction = s.transaction ∧
    (s.onRecord p f).engine = s.engine ∧
    (s.onRecord p f).buffers = s.buffers ∧
    (s.onRecord p f).picks = s.picks ∧
    (s.onRecord p f).pending = s.pending := by simp [State.onRecord]

@[simp] theorem State.offer_frame (s : State) (p : Port) (x : Notice) :
    (s.offer p x).resetLow = s.resetLow ∧
    (s.offer p x).timebase = s.timebase ∧
    (s.offer p x).ticked = s.ticked ∧
    (s.offer p x).records = s.records ∧
    (s.offer p x).windows = s.windows ∧
    (s.offer p x).directory = s.directory ∧
    (s.offer p x).claims = s.claims ∧
    (s.offer p x).slots = s.slots ∧
    (s.offer p x).lists = s.lists ∧
    (s.offer p x).scheduler = s.scheduler ∧
    (s.offer p x).transaction = s.transaction ∧
    (s.offer p x).engine = s.engine ∧
    (s.offer p x).buffers = s.buffers ∧
    (s.offer p x).picks = s.picks ∧
    (s.offer p x).pending = s.pending := by
  simp only [State.offer]
  repeat' split
  all_goals simp

@[simp] theorem State.convert_frame (s : State) (p : Port) (x : Notice) :
    (s.convert p x).resetLow = s.resetLow ∧
    (s.convert p x).timebase = s.timebase ∧
    (s.convert p x).ticked = s.ticked ∧
    (s.convert p x).records = s.records ∧
    (s.convert p x).windows = s.windows ∧
    (s.convert p x).directory = s.directory ∧
    (s.convert p x).claims = s.claims ∧
    (s.convert p x).slots = s.slots ∧
    (s.convert p x).lists = s.lists ∧
    (s.convert p x).scheduler = s.scheduler ∧
    (s.convert p x).transaction = s.transaction ∧
    (s.convert p x).engine = s.engine ∧
    (s.convert p x).buffers = s.buffers ∧
    (s.convert p x).picks = s.picks ∧
    (s.convert p x).pending = s.pending := by
  simp only [State.convert]
  repeat' split
  all_goals simp

@[simp] theorem State.offerEach_frame (s : State) (ports : List Port) (x : Notice) :
    (s.offerEach ports x).resetLow = s.resetLow ∧
    (s.offerEach ports x).timebase = s.timebase ∧
    (s.offerEach ports x).ticked = s.ticked ∧
    (s.offerEach ports x).records = s.records ∧
    (s.offerEach ports x).windows = s.windows ∧
    (s.offerEach ports x).directory = s.directory ∧
    (s.offerEach ports x).claims = s.claims ∧
    (s.offerEach ports x).slots = s.slots ∧
    (s.offerEach ports x).lists = s.lists ∧
    (s.offerEach ports x).scheduler = s.scheduler ∧
    (s.offerEach ports x).transaction = s.transaction ∧
    (s.offerEach ports x).engine = s.engine ∧
    (s.offerEach ports x).buffers = s.buffers ∧
    (s.offerEach ports x).picks = s.picks ∧
    (s.offerEach ports x).pending = s.pending := by
  induction ports generalizing s with
  | nil => simp [State.offerEach]
  | cons p ports ih =>
    have h := ih (s.offer p x)
    simpa [State.offerEach] using h

@[simp] theorem State.putStation_frame (s : State) (e : StationEntry) :
    (s.putStation e).resetLow = s.resetLow ∧
    (s.putStation e).timebase = s.timebase ∧
    (s.putStation e).ticked = s.ticked ∧
    (s.putStation e).records = s.records ∧
    (s.putStation e).windows = s.windows ∧
    (s.putStation e).queues = s.queues ∧
    (s.putStation e).claims = s.claims ∧
    (s.putStation e).slots = s.slots ∧
    (s.putStation e).lists = s.lists ∧
    (s.putStation e).scheduler = s.scheduler ∧
    (s.putStation e).transaction = s.transaction ∧
    (s.putStation e).engine = s.engine ∧
    (s.putStation e).buffers = s.buffers ∧
    (s.putStation e).picks = s.picks ∧
    (s.putStation e).pending = s.pending := by simp [State.putStation]

@[simp] theorem State.putClaim_frame (s : State) (c : ClaimRecord) :
    (s.putClaim c).resetLow = s.resetLow ∧
    (s.putClaim c).timebase = s.timebase ∧
    (s.putClaim c).ticked = s.ticked ∧
    (s.putClaim c).records = s.records ∧
    (s.putClaim c).windows = s.windows ∧
    (s.putClaim c).queues = s.queues ∧
    (s.putClaim c).directory = s.directory ∧
    (s.putClaim c).slots = s.slots ∧
    (s.putClaim c).lists = s.lists ∧
    (s.putClaim c).scheduler = s.scheduler ∧
    (s.putClaim c).transaction = s.transaction ∧
    (s.putClaim c).engine = s.engine ∧
    (s.putClaim c).buffers = s.buffers ∧
    (s.putClaim c).picks = s.picks ∧
    (s.putClaim c).pending = s.pending := by simp [State.putClaim]

/-! ### The tick in progress -/

@[simp] theorem State.reachClaim_frame (s : State) (target : Nat) :
    (s.reachClaim target).resetLow = s.resetLow ∧
    (s.reachClaim target).timebase = s.timebase ∧
    (s.reachClaim target).records = s.records ∧
    (s.reachClaim target).windows = s.windows ∧
    (s.reachClaim target).queues = s.queues ∧
    (s.reachClaim target).directory = s.directory ∧
    (s.reachClaim target).claims = s.claims ∧
    (s.reachClaim target).slots = s.slots ∧
    (s.reachClaim target).lists = s.lists ∧
    (s.reachClaim target).scheduler = s.scheduler ∧
    (s.reachClaim target).transaction = s.transaction ∧
    (s.reachClaim target).engine = s.engine ∧
    (s.reachClaim target).buffers = s.buffers ∧
    (s.reachClaim target).picks = s.picks ∧
    (s.reachClaim target).pending = s.pending := by
  unfold State.reachClaim
  split <;> simp

@[simp] theorem State.reachPort_frame (s : State) (p : Port) :
    (s.reachPort p).resetLow = s.resetLow ∧
    (s.reachPort p).timebase = s.timebase ∧
    (s.reachPort p).records = s.records ∧
    (s.reachPort p).windows = s.windows ∧
    (s.reachPort p).queues = s.queues ∧
    (s.reachPort p).directory = s.directory ∧
    (s.reachPort p).claims = s.claims ∧
    (s.reachPort p).slots = s.slots ∧
    (s.reachPort p).lists = s.lists ∧
    (s.reachPort p).scheduler = s.scheduler ∧
    (s.reachPort p).transaction = s.transaction ∧
    (s.reachPort p).engine = s.engine ∧
    (s.reachPort p).buffers = s.buffers ∧
    (s.reachPort p).picks = s.picks ∧
    (s.reachPort p).pending = s.pending := by
  unfold State.reachPort
  split <;> simp

@[simp] theorem State.claimSet_frame (s : State) (target : Nat) :
    (s.claimSet target).resetLow = s.resetLow ∧
    (s.claimSet target).timebase = s.timebase ∧
    (s.claimSet target).records = s.records ∧
    (s.claimSet target).windows = s.windows ∧
    (s.claimSet target).queues = s.queues ∧
    (s.claimSet target).directory = s.directory ∧
    (s.claimSet target).claims = s.claims ∧
    (s.claimSet target).slots = s.slots ∧
    (s.claimSet target).lists = s.lists ∧
    (s.claimSet target).scheduler = s.scheduler ∧
    (s.claimSet target).transaction = s.transaction ∧
    (s.claimSet target).engine = s.engine ∧
    (s.claimSet target).buffers = s.buffers ∧
    (s.claimSet target).picks = s.picks ∧
    (s.claimSet target).pending = s.pending := by
  unfold State.claimSet
  split <;> simp

@[simp] theorem State.timerSet_frame (s : State) (p : Port) :
    (s.timerSet p).resetLow = s.resetLow ∧
    (s.timerSet p).timebase = s.timebase ∧
    (s.timerSet p).records = s.records ∧
    (s.timerSet p).windows = s.windows ∧
    (s.timerSet p).queues = s.queues ∧
    (s.timerSet p).directory = s.directory ∧
    (s.timerSet p).claims = s.claims ∧
    (s.timerSet p).slots = s.slots ∧
    (s.timerSet p).lists = s.lists ∧
    (s.timerSet p).scheduler = s.scheduler ∧
    (s.timerSet p).transaction = s.transaction ∧
    (s.timerSet p).engine = s.engine ∧
    (s.timerSet p).buffers = s.buffers ∧
    (s.timerSet p).picks = s.picks ∧
    (s.timerSet p).pending = s.pending := by
  unfold State.timerSet
  split <;> simp

/-- What the tick in progress leaves out once a record is reached: this one too. -/
theorem State.mem_reachClaim (s : State) (target u : Nat) :
    u ∈ (s.reachClaim target).ticked.claims ↔ u = target ∨ u ∈ s.ticked.claims := by
  unfold State.reachClaim
  split
  · exact ⟨.inr, fun h => h.elim (fun h => h ▸ ‹_›) id⟩
  · simp

@[simp] theorem State.reachClaim_ports (s : State) (target : Nat) :
    (s.reachClaim target).ticked.ports = s.ticked.ports := by
  unfold State.reachClaim
  split <;> rfl

theorem State.mem_reachPort (s : State) (p q : Port) :
    q ∈ (s.reachPort p).ticked.ports ↔ q = p ∨ q ∈ s.ticked.ports := by
  unfold State.reachPort
  split
  · exact ⟨.inr, fun h => h.elim (fun h => h ▸ ‹_›) id⟩
  · simp

@[simp] theorem State.reachPort_claims (s : State) (p : Port) :
    (s.reachPort p).ticked.claims = s.ticked.claims := by
  unfold State.reachPort
  split <;> rfl

theorem Ticked.begun_eq_false (k : Ticked) : k.begun = false ↔ k = ⟨[], []⟩ := by
  rcases k with ⟨_ | _, _ | _⟩ <;> simp [Ticked.begun]

@[simp] theorem State.postStationState_frame (s : State) (e : StationEntry) (old : StationState) (new : NewState) :
    (s.postStationState e old new).resetLow = s.resetLow ∧
    (s.postStationState e old new).timebase = s.timebase ∧
    (s.postStationState e old new).ticked = s.ticked ∧
    (s.postStationState e old new).records = s.records ∧
    (s.postStationState e old new).windows = s.windows ∧
    (s.postStationState e old new).directory = s.directory ∧
    (s.postStationState e old new).claims = s.claims ∧
    (s.postStationState e old new).slots = s.slots ∧
    (s.postStationState e old new).lists = s.lists ∧
    (s.postStationState e old new).scheduler = s.scheduler ∧
    (s.postStationState e old new).transaction = s.transaction ∧
    (s.postStationState e old new).engine = s.engine ∧
    (s.postStationState e old new).buffers = s.buffers ∧
    (s.postStationState e old new).picks = s.picks ∧
    (s.postStationState e old new).pending = s.pending := by simp [State.postStationState]

@[simp] theorem State.setSlot_frame (s : State) (i : Nat) (x : Slot) :
    (s.setSlot i x).resetLow = s.resetLow ∧
    (s.setSlot i x).timebase = s.timebase ∧
    (s.setSlot i x).ticked = s.ticked ∧
    (s.setSlot i x).records = s.records ∧
    (s.setSlot i x).windows = s.windows ∧
    (s.setSlot i x).queues = s.queues ∧
    (s.setSlot i x).directory = s.directory ∧
    (s.setSlot i x).claims = s.claims ∧
    (s.setSlot i x).lists = s.lists ∧
    (s.setSlot i x).scheduler = s.scheduler ∧
    (s.setSlot i x).transaction = s.transaction ∧
    (s.setSlot i x).engine = s.engine ∧
    (s.setSlot i x).buffers = s.buffers ∧
    (s.setSlot i x).picks = s.picks ∧
    (s.setSlot i x).pending = s.pending := by simp [State.setSlot]

@[simp] theorem State.onList_frame (s : State) (p : Port) (f : List Nat → List Nat) :
    (s.onList p f).resetLow = s.resetLow ∧
    (s.onList p f).timebase = s.timebase ∧
    (s.onList p f).ticked = s.ticked ∧
    (s.onList p f).records = s.records ∧
    (s.onList p f).windows = s.windows ∧
    (s.onList p f).queues = s.queues ∧
    (s.onList p f).directory = s.directory ∧
    (s.onList p f).claims = s.claims ∧
    (s.onList p f).slots = s.slots ∧
    (s.onList p f).scheduler = s.scheduler ∧
    (s.onList p f).transaction = s.transaction ∧
    (s.onList p f).engine = s.engine ∧
    (s.onList p f).buffers = s.buffers ∧
    (s.onList p f).picks = s.picks ∧
    (s.onList p f).pending = s.pending := by simp [State.onList]

@[simp] theorem State.changeLine_frame (s : State) (new : LineState) (cause : LineCause) :
    (s.changeLine new cause).resetLow = s.resetLow ∧
    (s.changeLine new cause).timebase = s.timebase ∧
    (s.changeLine new cause).ticked = s.ticked ∧
    (s.changeLine new cause).records = s.records ∧
    (s.changeLine new cause).windows = s.windows ∧
    (s.changeLine new cause).directory = s.directory ∧
    (s.changeLine new cause).claims = s.claims ∧
    (s.changeLine new cause).slots = s.slots ∧
    (s.changeLine new cause).lists = s.lists ∧
    (s.changeLine new cause).transaction = s.transaction ∧
    (s.changeLine new cause).engine = s.engine ∧
    (s.changeLine new cause).buffers = s.buffers ∧
    (s.changeLine new cause).picks = s.picks ∧
    (s.changeLine new cause).pending = s.pending := by simp [State.changeLine]

/-! ### Stations -/

@[simp] theorem State.changeStation_frame (s : State) (a : Nat) (f : StationEntry → StationEntry) :
    (s.changeStation a f).resetLow = s.resetLow ∧
    (s.changeStation a f).timebase = s.timebase ∧
    (s.changeStation a f).ticked = s.ticked ∧
    (s.changeStation a f).records = s.records ∧
    (s.changeStation a f).windows = s.windows ∧
    (s.changeStation a f).claims = s.claims ∧
    (s.changeStation a f).slots = s.slots ∧
    (s.changeStation a f).lists = s.lists ∧
    (s.changeStation a f).scheduler = s.scheduler ∧
    (s.changeStation a f).transaction = s.transaction ∧
    (s.changeStation a f).engine = s.engine ∧
    (s.changeStation a f).buffers = s.buffers ∧
    (s.changeStation a f).picks = s.picks ∧
    (s.changeStation a f).pending = s.pending := by
  simp only [State.changeStation]
  repeat' split
  all_goals simp

@[simp] theorem State.applyReport_frame (s : State) (a : Nat) (r : StationReport) :
    (s.applyReport a r).resetLow = s.resetLow ∧
    (s.applyReport a r).timebase = s.timebase ∧
    (s.applyReport a r).ticked = s.ticked ∧
    (s.applyReport a r).records = s.records ∧
    (s.applyReport a r).windows = s.windows ∧
    (s.applyReport a r).claims = s.claims ∧
    (s.applyReport a r).slots = s.slots ∧
    (s.applyReport a r).lists = s.lists ∧
    (s.applyReport a r).scheduler = s.scheduler ∧
    (s.applyReport a r).transaction = s.transaction ∧
    (s.applyReport a r).engine = s.engine ∧
    (s.applyReport a r).buffers = s.buffers ∧
    (s.applyReport a r).picks = s.picks ∧
    (s.applyReport a r).pending = s.pending := by
  cases r <;> simp [State.applyReport]

/-! ### Reports -/

@[simp] theorem State.setBuffer_frame (s : State) (i : Nat) (b : Option ReportBuffer) :
    (s.setBuffer i b).resetLow = s.resetLow ∧
    (s.setBuffer i b).timebase = s.timebase ∧
    (s.setBuffer i b).ticked = s.ticked ∧
    (s.setBuffer i b).records = s.records ∧
    (s.setBuffer i b).windows = s.windows ∧
    (s.setBuffer i b).queues = s.queues ∧
    (s.setBuffer i b).directory = s.directory ∧
    (s.setBuffer i b).claims = s.claims ∧
    (s.setBuffer i b).slots = s.slots ∧
    (s.setBuffer i b).lists = s.lists ∧
    (s.setBuffer i b).scheduler = s.scheduler ∧
    (s.setBuffer i b).transaction = s.transaction ∧
    (s.setBuffer i b).engine = s.engine ∧
    (s.setBuffer i b).picks = s.picks ∧
    (s.setBuffer i b).pending = s.pending := by simp [State.setBuffer]

@[simp] theorem State.dropReference_frame (s : State) (x : Notice) :
    (s.dropReference x).resetLow = s.resetLow ∧
    (s.dropReference x).timebase = s.timebase ∧
    (s.dropReference x).ticked = s.ticked ∧
    (s.dropReference x).records = s.records ∧
    (s.dropReference x).windows = s.windows ∧
    (s.dropReference x).queues = s.queues ∧
    (s.dropReference x).directory = s.directory ∧
    (s.dropReference x).claims = s.claims ∧
    (s.dropReference x).slots = s.slots ∧
    (s.dropReference x).lists = s.lists ∧
    (s.dropReference x).scheduler = s.scheduler ∧
    (s.dropReference x).transaction = s.transaction ∧
    (s.dropReference x).engine = s.engine ∧
    (s.dropReference x).picks = s.picks ∧
    (s.dropReference x).pending = s.pending := by
  cases x <;> simp [State.dropReference]

@[simp] theorem State.offerReport_frame (s : State) (subs : List Subscription) (r : ReportNotice) :
    (s.offerReport subs r).resetLow = s.resetLow ∧
    (s.offerReport subs r).timebase = s.timebase ∧
    (s.offerReport subs r).ticked = s.ticked ∧
    (s.offerReport subs r).records = s.records ∧
    (s.offerReport subs r).windows = s.windows ∧
    (s.offerReport subs r).directory = s.directory ∧
    (s.offerReport subs r).claims = s.claims ∧
    (s.offerReport subs r).slots = s.slots ∧
    (s.offerReport subs r).lists = s.lists ∧
    (s.offerReport subs r).scheduler = s.scheduler ∧
    (s.offerReport subs r).transaction = s.transaction ∧
    (s.offerReport subs r).engine = s.engine ∧
    (s.offerReport subs r).buffers = s.buffers ∧
    (s.offerReport subs r).picks = s.picks ∧
    (s.offerReport subs r).pending = s.pending := by
  induction subs generalizing s with
  | nil => simp [State.offerReport]
  | cons x subs ih =>
    have h := ih (s.offer x.port (.report { r with gap := x.gap }))
    simpa [State.offerReport] using h

@[simp] theorem State.deliverReport_frame (s : State) (e : StationEntry) (i : Nat) (payload : List Byte)
    (noise : Bool) :
    (s.deliverReport e i payload noise).resetLow = s.resetLow ∧
    (s.deliverReport e i payload noise).timebase = s.timebase ∧
    (s.deliverReport e i payload noise).ticked = s.ticked ∧
    (s.deliverReport e i payload noise).records = s.records ∧
    (s.deliverReport e i payload noise).windows = s.windows ∧
    (s.deliverReport e i payload noise).claims = s.claims ∧
    (s.deliverReport e i payload noise).slots = s.slots ∧
    (s.deliverReport e i payload noise).lists = s.lists ∧
    (s.deliverReport e i payload noise).scheduler = s.scheduler ∧
    (s.deliverReport e i payload noise).transaction = s.transaction ∧
    (s.deliverReport e i payload noise).engine = s.engine ∧
    (s.deliverReport e i payload noise).picks = s.picks ∧
    (s.deliverReport e i payload noise).pending = s.pending := by simp [State.deliverReport]

@[simp] theorem State.judgeReport_frame (s : State) (a : Nat) (sBit : Bool) (payload : List Byte)
    (noise : Bool) :
    (s.judgeReport a sBit payload noise).resetLow = s.resetLow ∧
    (s.judgeReport a sBit payload noise).timebase = s.timebase ∧
    (s.judgeReport a sBit payload noise).ticked = s.ticked ∧
    (s.judgeReport a sBit payload noise).records = s.records ∧
    (s.judgeReport a sBit payload noise).windows = s.windows ∧
    (s.judgeReport a sBit payload noise).claims = s.claims ∧
    (s.judgeReport a sBit payload noise).slots = s.slots ∧
    (s.judgeReport a sBit payload noise).lists = s.lists ∧
    (s.judgeReport a sBit payload noise).scheduler = s.scheduler ∧
    (s.judgeReport a sBit payload noise).transaction = s.transaction ∧
    (s.judgeReport a sBit payload noise).engine = s.engine ∧
    (s.judgeReport a sBit payload noise).picks = s.picks ∧
    (s.judgeReport a sBit payload noise).pending = s.pending := by
  simp only [State.judgeReport]
  repeat' split
  all_goals simp

/-! ### RequestTable -/

@[simp] theorem State.endRequest_frame (s : State) (i : Nat) (status : CompletionStatus) :
    (s.endRequest i status).resetLow = s.resetLow ∧
    (s.endRequest i status).timebase = s.timebase ∧
    (s.endRequest i status).ticked = s.ticked ∧
    (s.endRequest i status).records = s.records ∧
    (s.endRequest i status).windows = s.windows ∧
    (s.endRequest i status).directory = s.directory ∧
    (s.endRequest i status).claims = s.claims ∧
    (s.endRequest i status).lists = s.lists ∧
    (s.endRequest i status).scheduler = s.scheduler ∧
    (s.endRequest i status).transaction = s.transaction ∧
    (s.endRequest i status).engine = s.engine ∧
    (s.endRequest i status).buffers = s.buffers ∧
    (s.endRequest i status).picks = s.picks ∧
    (s.endRequest i status).pending = s.pending := by
  simp only [State.endRequest]
  repeat' split
  all_goals simp

@[simp] theorem State.unlist_frame (s : State) (p : Port) (i : Nat) :
    (s.unlist p i).resetLow = s.resetLow ∧
    (s.unlist p i).timebase = s.timebase ∧
    (s.unlist p i).ticked = s.ticked ∧
    (s.unlist p i).records = s.records ∧
    (s.unlist p i).windows = s.windows ∧
    (s.unlist p i).queues = s.queues ∧
    (s.unlist p i).directory = s.directory ∧
    (s.unlist p i).claims = s.claims ∧
    (s.unlist p i).slots = s.slots ∧
    (s.unlist p i).scheduler = s.scheduler ∧
    (s.unlist p i).transaction = s.transaction ∧
    (s.unlist p i).engine = s.engine ∧
    (s.unlist p i).buffers = s.buffers ∧
    (s.unlist p i).picks = s.picks ∧
    (s.unlist p i).pending = s.pending := by simp [State.unlist]

@[simp] theorem State.writeSlot_frame (s : State) (i : Nat) (f : Request → Request) :
    (s.writeSlot i f).resetLow = s.resetLow ∧
    (s.writeSlot i f).timebase = s.timebase ∧
    (s.writeSlot i f).ticked = s.ticked ∧
    (s.writeSlot i f).records = s.records ∧
    (s.writeSlot i f).windows = s.windows ∧
    (s.writeSlot i f).queues = s.queues ∧
    (s.writeSlot i f).directory = s.directory ∧
    (s.writeSlot i f).claims = s.claims ∧
    (s.writeSlot i f).lists = s.lists ∧
    (s.writeSlot i f).scheduler = s.scheduler ∧
    (s.writeSlot i f).transaction = s.transaction ∧
    (s.writeSlot i f).engine = s.engine ∧
    (s.writeSlot i f).buffers = s.buffers ∧
    (s.writeSlot i f).picks = s.picks ∧
    (s.writeSlot i f).pending = s.pending := by simp [State.writeSlot]

/-! ### Transactions -/

@[simp] theorem State.handFrame_frame (s : State) (t : Transaction) (phase : Phase) (f : Frame) :
    (s.handFrame t phase f).resetLow = s.resetLow ∧
    (s.handFrame t phase f).timebase = s.timebase ∧
    (s.handFrame t phase f).ticked = s.ticked ∧
    (s.handFrame t phase f).records = s.records ∧
    (s.handFrame t phase f).windows = s.windows ∧
    (s.handFrame t phase f).queues = s.queues ∧
    (s.handFrame t phase f).directory = s.directory ∧
    (s.handFrame t phase f).claims = s.claims ∧
    (s.handFrame t phase f).slots = s.slots ∧
    (s.handFrame t phase f).lists = s.lists ∧
    (s.handFrame t phase f).scheduler = s.scheduler ∧
    (s.handFrame t phase f).buffers = s.buffers ∧
    (s.handFrame t phase f).picks = s.picks ∧
    (s.handFrame t phase f).pending = s.pending := by simp [State.handFrame]

@[simp] theorem State.countAttempt_frame (s : State) (source : Source) :
    (s.countAttempt source).resetLow = s.resetLow ∧
    (s.countAttempt source).timebase = s.timebase ∧
    (s.countAttempt source).ticked = s.ticked ∧
    (s.countAttempt source).records = s.records ∧
    (s.countAttempt source).windows = s.windows ∧
    (s.countAttempt source).queues = s.queues ∧
    (s.countAttempt source).directory = s.directory ∧
    (s.countAttempt source).claims = s.claims ∧
    (s.countAttempt source).lists = s.lists ∧
    (s.countAttempt source).scheduler = s.scheduler ∧
    (s.countAttempt source).transaction = s.transaction ∧
    (s.countAttempt source).engine = s.engine ∧
    (s.countAttempt source).buffers = s.buffers ∧
    (s.countAttempt source).picks = s.picks ∧
    (s.countAttempt source).pending = s.pending := by
  cases source <;> simp [State.countAttempt]

@[simp] theorem State.beginAttempt_frame (s : State) (t : Transaction) :
    (s.beginAttempt t).resetLow = s.resetLow ∧
    (s.beginAttempt t).timebase = s.timebase ∧
    (s.beginAttempt t).ticked = s.ticked ∧
    (s.beginAttempt t).records = s.records ∧
    (s.beginAttempt t).windows = s.windows ∧
    (s.beginAttempt t).queues = s.queues ∧
    (s.beginAttempt t).directory = s.directory ∧
    (s.beginAttempt t).claims = s.claims ∧
    (s.beginAttempt t).lists = s.lists ∧
    (s.beginAttempt t).scheduler = s.scheduler ∧
    (s.beginAttempt t).buffers = s.buffers ∧
    (s.beginAttempt t).picks = s.picks ∧
    (s.beginAttempt t).pending = s.pending := by
  simp only [State.beginAttempt]
  repeat' split
  all_goals simp

@[simp] theorem State.clearTransaction_frame (s : State) :
    (s.clearTransaction).resetLow = s.resetLow ∧
    (s.clearTransaction).timebase = s.timebase ∧
    (s.clearTransaction).ticked = s.ticked ∧
    (s.clearTransaction).records = s.records ∧
    (s.clearTransaction).windows = s.windows ∧
    (s.clearTransaction).queues = s.queues ∧
    (s.clearTransaction).directory = s.directory ∧
    (s.clearTransaction).claims = s.claims ∧
    (s.clearTransaction).slots = s.slots ∧
    (s.clearTransaction).lists = s.lists ∧
    (s.clearTransaction).engine = s.engine ∧
    (s.clearTransaction).buffers = s.buffers ∧
    (s.clearTransaction).picks = s.picks ∧
    (s.clearTransaction).pending = s.pending := by simp [State.clearTransaction]

@[simp] theorem State.endTransaction_frame (s : State) :
    (s.endTransaction).resetLow = s.resetLow ∧
    (s.endTransaction).timebase = s.timebase ∧
    (s.endTransaction).ticked = s.ticked ∧
    (s.endTransaction).records = s.records ∧
    (s.endTransaction).windows = s.windows ∧
    (s.endTransaction).directory = s.directory ∧
    (s.endTransaction).claims = s.claims ∧
    (s.endTransaction).slots = s.slots ∧
    (s.endTransaction).lists = s.lists ∧
    (s.endTransaction).engine = s.engine ∧
    (s.endTransaction).buffers = s.buffers ∧
    (s.endTransaction).picks = s.picks ∧
    (s.endTransaction).pending = s.pending := by
  simp only [State.endTransaction]
  repeat' split
  all_goals simp

@[simp] theorem State.finishRequest_frame (s : State) (i : Nat) (status : CompletionStatus) :
    (s.finishRequest i status).resetLow = s.resetLow ∧
    (s.finishRequest i status).timebase = s.timebase ∧
    (s.finishRequest i status).ticked = s.ticked ∧
    (s.finishRequest i status).records = s.records ∧
    (s.finishRequest i status).windows = s.windows ∧
    (s.finishRequest i status).directory = s.directory ∧
    (s.finishRequest i status).claims = s.claims ∧
    (s.finishRequest i status).lists = s.lists ∧
    (s.finishRequest i status).engine = s.engine ∧
    (s.finishRequest i status).buffers = s.buffers ∧
    (s.finishRequest i status).picks = s.picks ∧
    (s.finishRequest i status).pending = s.pending := by simp [State.finishRequest]

@[simp] theorem State.setPhase_frame (s : State) (t : Transaction) (phase : Phase) :
    (s.setPhase t phase).resetLow = s.resetLow ∧
    (s.setPhase t phase).timebase = s.timebase ∧
    (s.setPhase t phase).ticked = s.ticked ∧
    (s.setPhase t phase).records = s.records ∧
    (s.setPhase t phase).windows = s.windows ∧
    (s.setPhase t phase).queues = s.queues ∧
    (s.setPhase t phase).directory = s.directory ∧
    (s.setPhase t phase).claims = s.claims ∧
    (s.setPhase t phase).slots = s.slots ∧
    (s.setPhase t phase).lists = s.lists ∧
    (s.setPhase t phase).scheduler = s.scheduler ∧
    (s.setPhase t phase).engine = s.engine ∧
    (s.setPhase t phase).buffers = s.buffers ∧
    (s.setPhase t phase).picks = s.picks ∧
    (s.setPhase t phase).pending = s.pending := by simp [State.setPhase]

@[simp] theorem State.endAttempt_frame (s : State) (t : Transaction) (v : Verdict) :
    (s.endAttempt t v).resetLow = s.resetLow ∧
    (s.endAttempt t v).timebase = s.timebase ∧
    (s.endAttempt t v).ticked = s.ticked ∧
    (s.endAttempt t v).records = s.records ∧
    (s.endAttempt t v).windows = s.windows ∧
    (s.endAttempt t v).directory = s.directory ∧
    (s.endAttempt t v).claims = s.claims ∧
    (s.endAttempt t v).lists = s.lists ∧
    (s.endAttempt t v).engine = s.engine ∧
    (s.endAttempt t v).buffers = s.buffers ∧
    (s.endAttempt t v).picks = s.picks ∧
    (s.endAttempt t v).pending = s.pending := by
  simp only [State.endAttempt]
  repeat' split
  all_goals simp

@[simp] theorem State.writeSource_frame (s : State) (j : Judgement) (source : Source) :
    (s.writeSource j source).resetLow = s.resetLow ∧
    (s.writeSource j source).timebase = s.timebase ∧
    (s.writeSource j source).ticked = s.ticked ∧
    (s.writeSource j source).records = s.records ∧
    (s.writeSource j source).windows = s.windows ∧
    (s.writeSource j source).queues = s.queues ∧
    (s.writeSource j source).directory = s.directory ∧
    (s.writeSource j source).claims = s.claims ∧
    (s.writeSource j source).lists = s.lists ∧
    (s.writeSource j source).scheduler = s.scheduler ∧
    (s.writeSource j source).transaction = s.transaction ∧
    (s.writeSource j source).engine = s.engine ∧
    (s.writeSource j source).buffers = s.buffers ∧
    (s.writeSource j source).picks = s.picks ∧
    (s.writeSource j source).pending = s.pending := by
  cases source <;> simp [State.writeSource]

@[simp] theorem State.storeReport_frame (s : State) (a : Nat) (r : Option (Bool × List Byte × Bool)) :
    (s.storeReport a r).resetLow = s.resetLow ∧
    (s.storeReport a r).timebase = s.timebase ∧
    (s.storeReport a r).ticked = s.ticked ∧
    (s.storeReport a r).records = s.records ∧
    (s.storeReport a r).windows = s.windows ∧
    (s.storeReport a r).claims = s.claims ∧
    (s.storeReport a r).slots = s.slots ∧
    (s.storeReport a r).lists = s.lists ∧
    (s.storeReport a r).scheduler = s.scheduler ∧
    (s.storeReport a r).transaction = s.transaction ∧
    (s.storeReport a r).engine = s.engine ∧
    (s.storeReport a r).picks = s.picks ∧
    (s.storeReport a r).pending = s.pending := by
  simp only [State.storeReport]
  repeat' split
  all_goals simp

@[simp] theorem State.handResult_frame (s : State) (t : Transaction) (sBit : Bool) (result : ExchangeResult) :
    (s.handResult t sBit result).resetLow = s.resetLow ∧
    (s.handResult t sBit result).timebase = s.timebase ∧
    (s.handResult t sBit result).ticked = s.ticked ∧
    (s.handResult t sBit result).records = s.records ∧
    (s.handResult t sBit result).windows = s.windows ∧
    (s.handResult t sBit result).claims = s.claims ∧
    (s.handResult t sBit result).lists = s.lists ∧
    (s.handResult t sBit result).engine = s.engine ∧
    (s.handResult t sBit result).picks = s.picks ∧
    (s.handResult t sBit result).pending = s.pending := by
  simp only [State.handResult]
  repeat' split
  all_goals simp

@[simp] theorem State.endExchange_frame (s : State) (result : ExchangeResult) :
    (s.endExchange result).resetLow = s.resetLow ∧
    (s.endExchange result).timebase = s.timebase ∧
    (s.endExchange result).ticked = s.ticked ∧
    (s.endExchange result).records = s.records ∧
    (s.endExchange result).windows = s.windows ∧
    (s.endExchange result).claims = s.claims ∧
    (s.endExchange result).lists = s.lists ∧
    (s.endExchange result).picks = s.picks ∧
    (s.endExchange result).pending = s.pending := by
  simp only [State.endExchange]
  repeat' split
  all_goals simp

@[simp] theorem State.onCounters_frame (s : State) (f : LineCounters → LineCounters) :
    (s.onCounters f).resetLow = s.resetLow ∧
    (s.onCounters f).timebase = s.timebase ∧
    (s.onCounters f).ticked = s.ticked ∧
    (s.onCounters f).records = s.records ∧
    (s.onCounters f).windows = s.windows ∧
    (s.onCounters f).queues = s.queues ∧
    (s.onCounters f).directory = s.directory ∧
    (s.onCounters f).claims = s.claims ∧
    (s.onCounters f).slots = s.slots ∧
    (s.onCounters f).lists = s.lists ∧
    (s.onCounters f).scheduler = s.scheduler ∧
    (s.onCounters f).transaction = s.transaction ∧
    (s.onCounters f).buffers = s.buffers ∧
    (s.onCounters f).picks = s.picks ∧
    (s.onCounters f).pending = s.pending := by simp [State.onCounters]

@[simp] theorem State.endReply_frame (s : State) (result : ExchangeResult) :
    (s.endReply result).resetLow = s.resetLow ∧
    (s.endReply result).timebase = s.timebase ∧
    (s.endReply result).ticked = s.ticked ∧
    (s.endReply result).records = s.records ∧
    (s.endReply result).windows = s.windows ∧
    (s.endReply result).claims = s.claims ∧
    (s.endReply result).lists = s.lists ∧
    (s.endReply result).picks = s.picks ∧
    (s.endReply result).pending = s.pending := by simp [State.endReply]

@[simp] theorem State.resumeTransaction_frame (s : State) :
    (s.resumeTransaction).resetLow = s.resetLow ∧
    (s.resumeTransaction).timebase = s.timebase ∧
    (s.resumeTransaction).ticked = s.ticked ∧
    (s.resumeTransaction).records = s.records ∧
    (s.resumeTransaction).windows = s.windows ∧
    (s.resumeTransaction).directory = s.directory ∧
    (s.resumeTransaction).claims = s.claims ∧
    (s.resumeTransaction).lists = s.lists ∧
    (s.resumeTransaction).buffers = s.buffers ∧
    (s.resumeTransaction).picks = s.picks ∧
    (s.resumeTransaction).pending = s.pending := by
  simp only [State.resumeTransaction]
  repeat' split
  all_goals simp

end Sys2Proof.Machine
end

