-- ==== Sys2Proof/Laws/Queues.lean ====
section
/-! SUPPORT. The laws of the event queues: what offering a notice to one port, to several ports and
converting a unit leave in each queue. -/

namespace Sys2Proof.Machine

/-- Two states with equal fields are equal. -/
theorem State.ext_fields {s t : State} (h1 : s.resetLow = t.resetLow)
    (h2 : s.timebase = t.timebase) (h2' : s.ticked = t.ticked)
    (h3 : s.records = t.records) (h4 : s.windows = t.windows)
    (h5 : s.queues = t.queues) (h6 : s.directory = t.directory) (h7 : s.claims = t.claims)
    (h8 : s.slots = t.slots) (h9 : s.lists = t.lists) (h10 : s.scheduler = t.scheduler)
    (h11 : s.transaction = t.transaction) (h12 : s.engine = t.engine)
    (h13 : s.buffers = t.buffers) (h14 : s.picks = t.picks) (h15 : s.pending = t.pending) :
    s = t := by
  cases s; cases t
  simp only [State.mk.injEq]
  exact ⟨h1, h2, h2', h3, h4, h5, h6, h7, h8, h9, h10, h11, h12, h13, h14, h15⟩

/-- Whether a port is attached depends on its record alone. -/
theorem State.isAttached_congr {s t : State} (h : s.records = t.records) (p : Port) :
    s.isAttached p = t.isAttached p := by simp only [State.isAttached, h]

@[simp] theorem State.onQueue_queues (s : State) (p : Port) (f : EventQueue → EventQueue) :
    (s.onQueue p f).queues = s.queues.set p (f (s.queues.get p)) := rfl

@[simp] theorem State.offer_isAttached (s : State) (p q : Port) (x : Notice) :
    (s.offer p x).isAttached q = s.isAttached q := State.isAttached_congr (by simp) q

@[simp] theorem State.offerEach_isAttached (s : State) (ps : List Port) (x : Notice) (q : Port) :
    (s.offerEach ps x).isAttached q = s.isAttached q := State.isAttached_congr (by simp) q

/-- What one offer leaves in a queue. -/
theorem State.offer_queue (s : State) (p q : Port) (x : Notice) :
    (s.offer p x).queues.get q =
      if q = p ∧ s.isAttached p = true then (s.queues.get p).offer x else s.queues.get q := by
  unfold State.offer
  by_cases ha : s.isAttached p = true
  · simp [ha, PerPort.get_set]
  · simp [ha]

/-- One notice offered to several distinct ports: each attached one of them is offered it once, and
no other queue changes. -/
theorem State.offerEach_queue (s : State) {ps : List Port} (hn : ps.Nodup) (x : Notice)
    (q : Port) :
    (s.offerEach ps x).queues.get q =
      if q ∈ ps ∧ s.isAttached q = true then (s.queues.get q).offer x else s.queues.get q := by
  induction ps generalizing s with
  | nil => simp [State.offerEach]
  | cons p ps ih =>
    obtain ⟨hp, hps⟩ := List.nodup_cons.1 hn
    have h := ih (s.offer p x) hps
    simp only [State.offerEach, List.foldl_cons] at h ⊢
    rw [h, State.offer_isAttached, State.offer_queue]
    by_cases hq : q = p
    · subst hq; simp [hp]
    · simp [hq]

/-- The queues after several offers depend on the queues and the records alone. -/
theorem State.offerEach_queues_congr (ps : List Port) (x : Notice) {s t : State}
    (h : s.queues = t.queues) (ha : ∀ q, s.isAttached q = t.isAttached q) :
    (s.offerEach ps x).queues = (t.offerEach ps x).queues := by
  induction ps generalizing s t with
  | nil => exact h
  | cons p ps ih =>
    simp only [State.offerEach, List.foldl_cons] at *
    apply ih
    · simp only [State.offer, ha p]
      split
      · simp [h]
      · exact h
    · intro q
      rw [State.offer_isAttached, State.offer_isAttached, ha]

/-- Several offers change the queues alone. -/
theorem State.offerEach_eq (s : State) (ps : List Port) (x : Notice) :
    s.offerEach ps x = { s with queues := (s.offerEach ps x).queues } := by
  apply State.ext_fields <;> simp

/-- Converting a unit of an attached port's queue (R141). -/
theorem State.convert_of_attached {s : State} {p : Port} (x : Notice)
    (h : s.isAttached p = true) : s.convert p x = s.converted p x := by
  simp [State.convert, h, State.onQueue, State.converted, EventQueue.convert, EventQueue.push,
    State.withQueues]

/-- A change of the line state into RUNNING or STOPPED (R65). -/
theorem State.changeLine_eq (s : State) (new : LineState) (cause : LineCause) :
    s.changeLine new cause = s.announceLine new cause := rfl

/-- A notice offered stands at the end of the queue, or the missed count has risen (R142, R144). -/
theorem EventQueue.offer_cases (q : EventQueue) (x : Notice) :
    (q.sum < 16 ∧ q.offer x = { q with notices := q.notices ++ [x], attn := true }) ∨
      (16 ≤ q.sum ∧ q.offer x = { q with missed := min 255 (q.missed + 1) }) := by
  by_cases h : q.sum < 16
  · exact .inl ⟨h, by simp [EventQueue.offer, EventQueue.admits, queueRoom, h, EventQueue.push]⟩
  · exact .inr ⟨by omega, by
      simp [EventQueue.offer, EventQueue.admits, queueRoom, h, satInc]⟩

end Sys2Proof.Machine
end

