-- ==== Sys2Proof/Laws/SelectionFrames.lean ====
section
/-! SUPPORT. Which fields a selection, a hand-over, a teardown and the operations of single commands leave
as they are. -/

namespace Sys2Proof.Machine

/-! ### Selection -/

@[simp] theorem State.endSweep_frame (s : State) :
    (s.endSweep).resetLow = s.resetLow ∧
    (s.endSweep).timebase = s.timebase ∧
    (s.endSweep).ticked = s.ticked ∧
    (s.endSweep).records = s.records ∧
    (s.endSweep).windows = s.windows ∧
    (s.endSweep).directory = s.directory ∧
    (s.endSweep).claims = s.claims ∧
    (s.endSweep).slots = s.slots ∧
    (s.endSweep).lists = s.lists ∧
    (s.endSweep).transaction = s.transaction ∧
    (s.endSweep).engine = s.engine ∧
    (s.endSweep).buffers = s.buffers ∧
    (s.endSweep).picks = s.picks ∧
    (s.endSweep).pending = s.pending := by
  simp only [State.endSweep]
  repeat' split
  all_goals simp

@[simp] theorem State.sweepSearch_frame (s : State) :
    (s.sweepSearch).resetLow = s.resetLow ∧
    (s.sweepSearch).timebase = s.timebase ∧
    (s.sweepSearch).ticked = s.ticked ∧
    (s.sweepSearch).records = s.records ∧
    (s.sweepSearch).windows = s.windows ∧
    (s.sweepSearch).directory = s.directory ∧
    (s.sweepSearch).claims = s.claims ∧
    (s.sweepSearch).slots = s.slots ∧
    (s.sweepSearch).lists = s.lists ∧
    (s.sweepSearch).transaction = s.transaction ∧
    (s.sweepSearch).engine = s.engine ∧
    (s.sweepSearch).buffers = s.buffers ∧
    (s.sweepSearch).picks = s.picks ∧
    (s.sweepSearch).pending = s.pending := by
  simp only [State.sweepSearch]
  repeat' split
  all_goals simp

@[simp] theorem State.beginVisit_frame (s : State) (a credit : Nat) :
    (s.beginVisit a credit).resetLow = s.resetLow ∧
    (s.beginVisit a credit).timebase = s.timebase ∧
    (s.beginVisit a credit).ticked = s.ticked ∧
    (s.beginVisit a credit).records = s.records ∧
    (s.beginVisit a credit).windows = s.windows ∧
    (s.beginVisit a credit).queues = s.queues ∧
    (s.beginVisit a credit).directory = s.directory ∧
    (s.beginVisit a credit).claims = s.claims ∧
    (s.beginVisit a credit).lists = s.lists ∧
    (s.beginVisit a credit).buffers = s.buffers ∧
    (s.beginVisit a credit).picks = s.picks ∧
    (s.beginVisit a credit).pending = s.pending := by simp [State.beginVisit]

@[simp] theorem State.beginRequest_frame (s : State) (p : Port) (i : Nat) (r : Request) :
    (s.beginRequest p i r).resetLow = s.resetLow ∧
    (s.beginRequest p i r).timebase = s.timebase ∧
    (s.beginRequest p i r).ticked = s.ticked ∧
    (s.beginRequest p i r).records = s.records ∧
    (s.beginRequest p i r).windows = s.windows ∧
    (s.beginRequest p i r).queues = s.queues ∧
    (s.beginRequest p i r).directory = s.directory ∧
    (s.beginRequest p i r).claims = s.claims ∧
    (s.beginRequest p i r).lists = s.lists ∧
    (s.beginRequest p i r).buffers = s.buffers ∧
    (s.beginRequest p i r).picks = s.picks ∧
    (s.beginRequest p i r).pending = s.pending := by simp [State.beginRequest]

@[simp] theorem State.takeChoice_frame (s : State) (p : Port) (i : Nat) :
    (s.takeChoice p i).resetLow = s.resetLow ∧
    (s.takeChoice p i).timebase = s.timebase ∧
    (s.takeChoice p i).ticked = s.ticked ∧
    (s.takeChoice p i).records = s.records ∧
    (s.takeChoice p i).windows = s.windows ∧
    (s.takeChoice p i).queues = s.queues ∧
    (s.takeChoice p i).directory = s.directory ∧
    (s.takeChoice p i).claims = s.claims ∧
    (s.takeChoice p i).slots = s.slots ∧
    (s.takeChoice p i).transaction = s.transaction ∧
    (s.takeChoice p i).engine = s.engine ∧
    (s.takeChoice p i).buffers = s.buffers ∧
    (s.takeChoice p i).picks = s.picks ∧
    (s.takeChoice p i).pending = s.pending := by simp [State.takeChoice]

@[simp] theorem State.choose_frame (s : State) (fuel : Nat) (found : Option Nat) :
    (State.choose fuel found s).resetLow = s.resetLow ∧
    (State.choose fuel found s).timebase = s.timebase ∧
    (State.choose fuel found s).ticked = s.ticked ∧
    (State.choose fuel found s).records = s.records ∧
    (State.choose fuel found s).windows = s.windows ∧
    (State.choose fuel found s).directory = s.directory ∧
    (State.choose fuel found s).claims = s.claims ∧
    (State.choose fuel found s).buffers = s.buffers ∧
    (State.choose fuel found s).picks = s.picks ∧
    (State.choose fuel found s).pending = s.pending := by
  induction fuel generalizing s with
  | zero => simp [State.choose]
  | succ fuel ih =>
    simp only [State.choose]
    repeat' split
    all_goals simp [ih]

@[simp] theorem State.select_frame (s : State) :
    (s.select).resetLow = s.resetLow ∧
    (s.select).timebase = s.timebase ∧
    (s.select).ticked = s.ticked ∧
    (s.select).records = s.records ∧
    (s.select).windows = s.windows ∧
    (s.select).directory = s.directory ∧
    (s.select).claims = s.claims ∧
    (s.select).buffers = s.buffers ∧
    (s.select).picks = s.picks ∧
    (s.select).pending = s.pending := by
  simp only [State.select]
  repeat' split
  all_goals simp

/-! ### Claims -/

@[simp] theorem State.passClaim_frame (s : State) (c : ClaimRecord) :
    (s.passClaim c).resetLow = s.resetLow ∧
    (s.passClaim c).timebase = s.timebase ∧
    (s.passClaim c).records = s.records ∧
    (s.passClaim c).windows = s.windows ∧
    (s.passClaim c).directory = s.directory ∧
    (s.passClaim c).slots = s.slots ∧
    (s.passClaim c).lists = s.lists ∧
    (s.passClaim c).scheduler = s.scheduler ∧
    (s.passClaim c).transaction = s.transaction ∧
    (s.passClaim c).engine = s.engine ∧
    (s.passClaim c).buffers = s.buffers ∧
    (s.passClaim c).picks = s.picks ∧
    (s.passClaim c).pending = s.pending := by
  simp only [State.passClaim]
  repeat' split
  all_goals simp

@[simp] theorem State.holderLeaves_frame (s : State) (target : Nat) :
    (s.holderLeaves target).resetLow = s.resetLow ∧
    (s.holderLeaves target).timebase = s.timebase ∧
    (s.holderLeaves target).records = s.records ∧
    (s.holderLeaves target).windows = s.windows ∧
    (s.holderLeaves target).directory = s.directory ∧
    (s.holderLeaves target).buffers = s.buffers ∧
    (s.holderLeaves target).picks = s.picks ∧
    (s.holderLeaves target).pending = s.pending := by
  simp only [State.holderLeaves]
  repeat' split
  all_goals simp

@[simp] theorem State.leaveClaims_frame (s : State) (fuel : Nat) (p : Port) :
    (State.leaveClaims fuel p s).resetLow = s.resetLow ∧
    (State.leaveClaims fuel p s).timebase = s.timebase ∧
    (State.leaveClaims fuel p s).records = s.records ∧
    (State.leaveClaims fuel p s).windows = s.windows ∧
    (State.leaveClaims fuel p s).directory = s.directory ∧
    (State.leaveClaims fuel p s).buffers = s.buffers ∧
    (State.leaveClaims fuel p s).pending = s.pending := by
  induction fuel generalizing s with
  | zero => simp [State.leaveClaims]
  | succ fuel ih =>
    simp only [State.leaveClaims]
    split
    all_goals simp [ih]

@[simp] theorem State.leaveWaits_frame (s : State) (p : Port) :
    (s.leaveWaits p).resetLow = s.resetLow ∧
    (s.leaveWaits p).timebase = s.timebase ∧
    (s.leaveWaits p).ticked = s.ticked ∧
    (s.leaveWaits p).records = s.records ∧
    (s.leaveWaits p).windows = s.windows ∧
    (s.leaveWaits p).queues = s.queues ∧
    (s.leaveWaits p).directory = s.directory ∧
    (s.leaveWaits p).slots = s.slots ∧
    (s.leaveWaits p).lists = s.lists ∧
    (s.leaveWaits p).scheduler = s.scheduler ∧
    (s.leaveWaits p).transaction = s.transaction ∧
    (s.leaveWaits p).engine = s.engine ∧
    (s.leaveWaits p).buffers = s.buffers ∧
    (s.leaveWaits p).picks = s.picks ∧
    (s.leaveWaits p).pending = s.pending := by simp [State.leaveWaits]

/-! ### Sessions -/

@[simp] theorem State.setWindow_frame (s : State) (p : Port) (w : Window) :
    (s.setWindow p w).resetLow = s.resetLow ∧
    (s.setWindow p w).timebase = s.timebase ∧
    (s.setWindow p w).ticked = s.ticked ∧
    (s.setWindow p w).records = s.records ∧
    (s.setWindow p w).queues = s.queues ∧
    (s.setWindow p w).directory = s.directory ∧
    (s.setWindow p w).claims = s.claims ∧
    (s.setWindow p w).slots = s.slots ∧
    (s.setWindow p w).lists = s.lists ∧
    (s.setWindow p w).scheduler = s.scheduler ∧
    (s.setWindow p w).transaction = s.transaction ∧
    (s.setWindow p w).engine = s.engine ∧
    (s.setWindow p w).buffers = s.buffers ∧
    (s.setWindow p w).picks = s.picks ∧
    (s.setWindow p w).pending = s.pending := by simp [State.setWindow]

@[simp] theorem State.endSession_frame (s : State) (p : Port) (cause : TeardownCause) :
    (s.endSession p cause).resetLow = s.resetLow ∧
    (s.endSession p cause).timebase = s.timebase ∧
    (s.endSession p cause).ticked = s.ticked ∧
    (s.endSession p cause).windows = s.windows ∧
    (s.endSession p cause).queues = s.queues ∧
    (s.endSession p cause).directory = s.directory ∧
    (s.endSession p cause).claims = s.claims ∧
    (s.endSession p cause).slots = s.slots ∧
    (s.endSession p cause).lists = s.lists ∧
    (s.endSession p cause).scheduler = s.scheduler ∧
    (s.endSession p cause).transaction = s.transaction ∧
    (s.endSession p cause).engine = s.engine ∧
    (s.endSession p cause).buffers = s.buffers ∧
    (s.endSession p cause).picks = s.picks ∧
    (s.endSession p cause).pending = s.pending := by simp [State.endSession]

@[simp] theorem State.dropRequests_frame (s : State) (p : Port) :
    (s.dropRequests p).resetLow = s.resetLow ∧
    (s.dropRequests p).timebase = s.timebase ∧
    (s.dropRequests p).ticked = s.ticked ∧
    (s.dropRequests p).records = s.records ∧
    (s.dropRequests p).windows = s.windows ∧
    (s.dropRequests p).queues = s.queues ∧
    (s.dropRequests p).directory = s.directory ∧
    (s.dropRequests p).claims = s.claims ∧
    (s.dropRequests p).scheduler = s.scheduler ∧
    (s.dropRequests p).transaction = s.transaction ∧
    (s.dropRequests p).engine = s.engine ∧
    (s.dropRequests p).buffers = s.buffers ∧
    (s.dropRequests p).picks = s.picks ∧
    (s.dropRequests p).pending = s.pending := by simp [State.dropRequests]

@[simp] theorem State.dropSubscriptions_frame (s : State) (p : Port) :
    (s.dropSubscriptions p).resetLow = s.resetLow ∧
    (s.dropSubscriptions p).timebase = s.timebase ∧
    (s.dropSubscriptions p).ticked = s.ticked ∧
    (s.dropSubscriptions p).records = s.records ∧
    (s.dropSubscriptions p).windows = s.windows ∧
    (s.dropSubscriptions p).queues = s.queues ∧
    (s.dropSubscriptions p).claims = s.claims ∧
    (s.dropSubscriptions p).slots = s.slots ∧
    (s.dropSubscriptions p).lists = s.lists ∧
    (s.dropSubscriptions p).scheduler = s.scheduler ∧
    (s.dropSubscriptions p).transaction = s.transaction ∧
    (s.dropSubscriptions p).engine = s.engine ∧
    (s.dropSubscriptions p).buffers = s.buffers ∧
    (s.dropSubscriptions p).picks = s.picks ∧
    (s.dropSubscriptions p).pending = s.pending := by simp [State.dropSubscriptions]

@[simp] theorem State.dropReferences_frame (s : State) (xs : List Notice) :
    ((xs.foldl State.dropReference s)).resetLow = s.resetLow ∧
    ((xs.foldl State.dropReference s)).timebase = s.timebase ∧
    ((xs.foldl State.dropReference s)).ticked = s.ticked ∧
    ((xs.foldl State.dropReference s)).records = s.records ∧
    ((xs.foldl State.dropReference s)).windows = s.windows ∧
    ((xs.foldl State.dropReference s)).queues = s.queues ∧
    ((xs.foldl State.dropReference s)).directory = s.directory ∧
    ((xs.foldl State.dropReference s)).claims = s.claims ∧
    ((xs.foldl State.dropReference s)).slots = s.slots ∧
    ((xs.foldl State.dropReference s)).lists = s.lists ∧
    ((xs.foldl State.dropReference s)).scheduler = s.scheduler ∧
    ((xs.foldl State.dropReference s)).transaction = s.transaction ∧
    ((xs.foldl State.dropReference s)).engine = s.engine ∧
    ((xs.foldl State.dropReference s)).picks = s.picks ∧
    ((xs.foldl State.dropReference s)).pending = s.pending := by
  induction xs generalizing s with
  | nil => simp
  | cons x xs ih =>
    have h := ih (s.dropReference x)
    simpa using h

@[simp] theorem State.flushQueue_frame (s : State) (p : Port) :
    (s.flushQueue p).resetLow = s.resetLow ∧
    (s.flushQueue p).timebase = s.timebase ∧
    (s.flushQueue p).ticked = s.ticked ∧
    (s.flushQueue p).records = s.records ∧
    (s.flushQueue p).windows = s.windows ∧
    (s.flushQueue p).directory = s.directory ∧
    (s.flushQueue p).claims = s.claims ∧
    (s.flushQueue p).slots = s.slots ∧
    (s.flushQueue p).lists = s.lists ∧
    (s.flushQueue p).scheduler = s.scheduler ∧
    (s.flushQueue p).transaction = s.transaction ∧
    (s.flushQueue p).engine = s.engine ∧
    (s.flushQueue p).picks = s.picks ∧
    (s.flushQueue p).pending = s.pending := by simp [State.flushQueue]

@[simp] theorem State.dropRequester_frame (s : State) (p : Port) :
    (s.dropRequester p).resetLow = s.resetLow ∧
    (s.dropRequester p).timebase = s.timebase ∧
    (s.dropRequester p).ticked = s.ticked ∧
    (s.dropRequester p).records = s.records ∧
    (s.dropRequester p).windows = s.windows ∧
    (s.dropRequester p).queues = s.queues ∧
    (s.dropRequester p).directory = s.directory ∧
    (s.dropRequester p).claims = s.claims ∧
    (s.dropRequester p).slots = s.slots ∧
    (s.dropRequester p).lists = s.lists ∧
    (s.dropRequester p).transaction = s.transaction ∧
    (s.dropRequester p).engine = s.engine ∧
    (s.dropRequester p).buffers = s.buffers ∧
    (s.dropRequester p).picks = s.picks ∧
    (s.dropRequester p).pending = s.pending := by
  simp only [State.dropRequester]
  repeat' split
  all_goals simp

@[simp] theorem State.tearDown_frame (s : State) (p : Port) (cause : TeardownCause) :
    (s.tearDown p cause).resetLow = s.resetLow ∧
    (s.tearDown p cause).timebase = s.timebase ∧
    (s.tearDown p cause).windows = s.windows ∧
    (s.tearDown p cause).pending = s.pending := by simp [State.tearDown]

/-! ### LineCommands -/

@[simp] theorem State.cutTransaction_frame (s : State) :
    (s.cutTransaction).resetLow = s.resetLow ∧
    (s.cutTransaction).timebase = s.timebase ∧
    (s.cutTransaction).ticked = s.ticked ∧
    (s.cutTransaction).records = s.records ∧
    (s.cutTransaction).windows = s.windows ∧
    (s.cutTransaction).directory = s.directory ∧
    (s.cutTransaction).claims = s.claims ∧
    (s.cutTransaction).lists = s.lists ∧
    (s.cutTransaction).engine = s.engine ∧
    (s.cutTransaction).buffers = s.buffers ∧
    (s.cutTransaction).picks = s.picks ∧
    (s.cutTransaction).pending = s.pending := by
  simp only [State.cutTransaction]
  repeat' split
  all_goals simp

/-! ### DirectoryCommands -/

@[simp] theorem State.selectIf_frame (s : State) (b : Bool) :
    (s.selectIf b).resetLow = s.resetLow ∧
    (s.selectIf b).timebase = s.timebase ∧
    (s.selectIf b).ticked = s.ticked ∧
    (s.selectIf b).records = s.records ∧
    (s.selectIf b).windows = s.windows ∧
    (s.selectIf b).directory = s.directory ∧
    (s.selectIf b).claims = s.claims ∧
    (s.selectIf b).buffers = s.buffers ∧
    (s.selectIf b).picks = s.picks ∧
    (s.selectIf b).pending = s.pending := by
  simp only [State.selectIf]
  repeat' split
  all_goals simp

/-! ### SessionCommands -/

@[simp] theorem State.removeNotice_frame (s : State) (p : Port) :
    (s.removeNotice p).resetLow = s.resetLow ∧
    (s.removeNotice p).timebase = s.timebase ∧
    (s.removeNotice p).ticked = s.ticked ∧
    (s.removeNotice p).records = s.records ∧
    (s.removeNotice p).windows = s.windows ∧
    (s.removeNotice p).directory = s.directory ∧
    (s.removeNotice p).claims = s.claims ∧
    (s.removeNotice p).slots = s.slots ∧
    (s.removeNotice p).lists = s.lists ∧
    (s.removeNotice p).scheduler = s.scheduler ∧
    (s.removeNotice p).transaction = s.transaction ∧
    (s.removeNotice p).engine = s.engine ∧
    (s.removeNotice p).picks = s.picks ∧
    (s.removeNotice p).pending = s.pending := by
  simp only [State.removeNotice]
  repeat' split
  all_goals simp

/-! ### RequestCommands -/

@[simp] theorem State.fillSlot_frame (s : State) (p : Port) (i : Nat) (r : Request) :
    (s.fillSlot p i r).resetLow = s.resetLow ∧
    (s.fillSlot p i r).timebase = s.timebase ∧
    (s.fillSlot p i r).ticked = s.ticked ∧
    (s.fillSlot p i r).records = s.records ∧
    (s.fillSlot p i r).windows = s.windows ∧
    (s.fillSlot p i r).directory = s.directory ∧
    (s.fillSlot p i r).claims = s.claims ∧
    (s.fillSlot p i r).scheduler = s.scheduler ∧
    (s.fillSlot p i r).transaction = s.transaction ∧
    (s.fillSlot p i r).engine = s.engine ∧
    (s.fillSlot p i r).buffers = s.buffers ∧
    (s.fillSlot p i r).picks = s.picks ∧
    (s.fillSlot p i r).pending = s.pending := by simp [State.fillSlot]

/-! ### EngineEvents -/

@[simp] theorem State.characterDone_frame (s : State) :
    (s.characterDone).resetLow = s.resetLow ∧
    (s.characterDone).timebase = s.timebase ∧
    (s.characterDone).ticked = s.ticked ∧
    (s.characterDone).records = s.records ∧
    (s.characterDone).windows = s.windows ∧
    (s.characterDone).queues = s.queues ∧
    (s.characterDone).directory = s.directory ∧
    (s.characterDone).claims = s.claims ∧
    (s.characterDone).slots = s.slots ∧
    (s.characterDone).lists = s.lists ∧
    (s.characterDone).scheduler = s.scheduler ∧
    (s.characterDone).transaction = s.transaction ∧
    (s.characterDone).buffers = s.buffers ∧
    (s.characterDone).picks = s.picks ∧
    (s.characterDone).pending = s.pending := by simp [State.characterDone]

@[simp] theorem State.countStray_frame (s : State) :
    (s.countStray).resetLow = s.resetLow ∧
    (s.countStray).timebase = s.timebase ∧
    (s.countStray).ticked = s.ticked ∧
    (s.countStray).records = s.records ∧
    (s.countStray).windows = s.windows ∧
    (s.countStray).queues = s.queues ∧
    (s.countStray).directory = s.directory ∧
    (s.countStray).claims = s.claims ∧
    (s.countStray).slots = s.slots ∧
    (s.countStray).lists = s.lists ∧
    (s.countStray).scheduler = s.scheduler ∧
    (s.countStray).transaction = s.transaction ∧
    (s.countStray).buffers = s.buffers ∧
    (s.countStray).picks = s.picks ∧
    (s.countStray).pending = s.pending := by simp [State.countStray]

@[simp] theorem State.endUnanswered_frame (s : State) :
    (s.endUnanswered).resetLow = s.resetLow ∧
    (s.endUnanswered).timebase = s.timebase ∧
    (s.endUnanswered).ticked = s.ticked ∧
    (s.endUnanswered).records = s.records ∧
    (s.endUnanswered).windows = s.windows ∧
    (s.endUnanswered).claims = s.claims ∧
    (s.endUnanswered).lists = s.lists ∧
    (s.endUnanswered).picks = s.picks ∧
    (s.endUnanswered).pending = s.pending := by simp [State.endUnanswered]

@[simp] theorem State.listenOn_frame (s : State) :
    (s.listenOn).resetLow = s.resetLow ∧
    (s.listenOn).timebase = s.timebase ∧
    (s.listenOn).ticked = s.ticked ∧
    (s.listenOn).records = s.records ∧
    (s.listenOn).windows = s.windows ∧
    (s.listenOn).claims = s.claims ∧
    (s.listenOn).lists = s.lists ∧
    (s.listenOn).picks = s.picks ∧
    (s.listenOn).pending = s.pending := by
  simp only [State.listenOn]
  repeat' split
  all_goals simp

@[simp] theorem State.takeHead_frame (s : State) (c : Character) :
    (s.takeHead c).resetLow = s.resetLow ∧
    (s.takeHead c).timebase = s.timebase ∧
    (s.takeHead c).ticked = s.ticked ∧
    (s.takeHead c).records = s.records ∧
    (s.takeHead c).windows = s.windows ∧
    (s.takeHead c).claims = s.claims ∧
    (s.takeHead c).lists = s.lists ∧
    (s.takeHead c).picks = s.picks ∧
    (s.takeHead c).pending = s.pending := by
  simp only [State.takeHead]
  repeat' split
  all_goals simp

@[simp] theorem State.newHead_frame (s : State) (c : Character) (inWindow : Bool) :
    (s.newHead c inWindow).resetLow = s.resetLow ∧
    (s.newHead c inWindow).timebase = s.timebase ∧
    (s.newHead c inWindow).ticked = s.ticked ∧
    (s.newHead c inWindow).records = s.records ∧
    (s.newHead c inWindow).windows = s.windows ∧
    (s.newHead c inWindow).claims = s.claims ∧
    (s.newHead c inWindow).lists = s.lists ∧
    (s.newHead c inWindow).picks = s.picks ∧
    (s.newHead c inWindow).pending = s.pending := by
  simp only [State.newHead]
  repeat' split
  all_goals simp

@[simp] theorem State.addCharacter_frame (s : State) (c : Character) :
    (s.addCharacter c).resetLow = s.resetLow ∧
    (s.addCharacter c).timebase = s.timebase ∧
    (s.addCharacter c).ticked = s.ticked ∧
    (s.addCharacter c).records = s.records ∧
    (s.addCharacter c).windows = s.windows ∧
    (s.addCharacter c).claims = s.claims ∧
    (s.addCharacter c).lists = s.lists ∧
    (s.addCharacter c).picks = s.picks ∧
    (s.addCharacter c).pending = s.pending := by
  simp only [State.addCharacter]
  repeat' split
  all_goals simp

end Sys2Proof.Machine
end

