-- ==== Sys2Proof/Laws/Operations.lean ====
section
/-! SUPPORT. For each shared operation with several outcomes, the one case split that says what it can
do, to be cited in place of unfolding it. -/

namespace Sys2Proof.Machine

/-! ### Stations, claims, requests -/

/-- A change of an entry: none enrolled, the state kept, or the state changed with its notices (R10,
R18). -/
theorem State.changeStation_cases (s : State) (a : Nat) (f : StationEntry → StationEntry) :
    (s.station? a = none ∧ s.changeStation a f = s) ∨
      ∃ e, s.station? a = some e ∧
        (((f e).state = e.state ∧ s.changeStation a f = s.putStation (f e)) ∨
          ((f e).state ≠ e.state ∧
            s.changeStation a f =
              (s.putStation (f e)).postStationState (f e) e.state (.entry (f e).state))) := by
  unfold State.changeStation
  cases h : s.station? a with
  | none => exact .inl ⟨rfl, rfl⟩
  | some e =>
    refine .inr ⟨e, rfl, ?_⟩
    by_cases hs : (f e).state = e.state
    · exact .inl ⟨hs, by simp [hs]⟩
    · exact .inr ⟨hs, by simp [hs]⟩

/-- An outcome report is no change, or a change of one entry (R11). -/
theorem State.applyReport_cases (s : State) (a : Nat) (r : StationReport) :
    s.applyReport a r = s ∨ ∃ f, s.applyReport a r = s.changeStation a f := by
  cases r with
  | none => exact .inl rfl
  | validReply n b => exact .inr ⟨_, rfl⟩
  | successfulProbe n => exact .inr ⟨_, rfl⟩
  | failedAttempt => exact .inr ⟨_, rfl⟩

/-- The end of a request: a FREE slot stays, one with an owner turns into its COMPLETION, and an
ORPHANED one becomes FREE (R56, R57). -/
theorem State.endRequest_cases (s : State) (i : Nat) (status : CompletionStatus) :
    (s.slot i = .free ∧ s.endRequest i status = s) ∨
      (∃ p r, (s.slot i = .pending p r ∨ s.slot i = .active p r) ∧
        s.endRequest i status =
          (s.convert p (.completion (s.completionOf i r status))).setSlot i .free) ∨
      ∃ r, s.slot i = .orphaned r ∧ s.endRequest i status = s.setSlot i .free := by
  unfold State.endRequest
  cases h : s.slot i with
  | free => exact .inl ⟨rfl, rfl⟩
  | pending p r => exact .inr (.inl ⟨p, r, .inl rfl, rfl⟩)
  | active p r => exact .inr (.inl ⟨p, r, .inr rfl, rfl⟩)
  | orphaned r => exact .inr (.inr ⟨r, rfl, rfl⟩)

/-- A property that the hand-over of one claim keeps, whatever the count of free choices, holds after
a port's claims are handed on (R37). -/
theorem State.leaveClaims_induct (P : State → Prop) (p : Port)
    (picks : ∀ s, P s → P (s.withPicks (s.picks + 1)))
    (leaves : ∀ s t, P s → P (s.holderLeaves t)) (fuel : Nat) (s : State) (h : P s) :
    P (State.leaveClaims fuel p s) := by
  induction fuel generalizing s with
  | zero => exact h
  | succ fuel ih =>
    unfold State.leaveClaims
    split
    · exact h
    · exact leaves _ _ h
    · exact ih _ (leaves _ _ (picks _ h))

/-! ### The end of an attempt and of a transaction -/

/-- The end of a transaction stops a DRAINING line, and leaves the line state otherwise (R63, R97). -/
theorem State.endTransaction_cases (s : State) :
    (s.scheduler.line = .draining ∧
        s.endTransaction = s.clearTransaction.changeLine .stopped .halt) ∨
      (s.scheduler.line ≠ .draining ∧ s.endTransaction = s.clearTransaction) := by
  unfold State.endTransaction
  by_cases h : s.scheduler.line = .draining
  · exact .inl ⟨h, by simp [h]⟩
  · exact .inr ⟨h, by simp [h]⟩

/-- The end of an attempt ends a request, ends a visit, or leaves an ACTIVE request waiting for its
next attempt (R95, R98, R101). -/
theorem State.endAttempt_cases (s : State) (t : Transaction) (v : Verdict) :
    (∃ i status, t.source = .request i ∧ s.endAttempt t v = s.finishRequest i status) ∨
      s.endAttempt t v = s.endTransaction ∨
      ∃ i q r, t.source = .request i ∧ s.slot i = .active q r ∧ s.attemptStatus r v = none ∧
        s.endAttempt t v = s.setPhase t .awaitRetry := by
  unfold State.endAttempt
  cases hsrc : t.source with
  | visit => exact .inr (.inl rfl)
  | request i =>
    cases hs : s.slot i with
    | free => exact .inr (.inl (by simp [hs]))
    | pending q r => exact .inr (.inl (by simp [hs]))
    | orphaned r => exact .inl ⟨i, .cancelled, rfl, by simp only [hs]⟩
    | active q r =>
      cases ha : s.attemptStatus r v with
      | some st => exact .inl ⟨i, st, rfl, by simp only [hs, ha]⟩
      | none => exact .inr (.inr ⟨i, q, r, rfl, hs, ha, by simp only [hs, ha]⟩)

/-- The Transaction Unit at the end of a gap: nothing, the main frame of the attempt, the next attempt
of a request, or the end of a transaction (R93, R96). -/
theorem State.resumeTransaction_cases (s : State) :
    s.resumeTransaction = s ∨
      ∃ t, s.transaction = some t ∧
        ((t.phase = .awaitMain ∧ s.resumeTransaction = s.handFrame t .mainFrame (s.mainFrame t)) ∨
          (t.phase = .awaitRetry ∧
            (s.resumeTransaction = s.endTransaction ∨
              ∃ i, t.source = .request i ∧
                (s.resumeTransaction = s.finishRequest i .cancelled ∨
                  ∃ q r, s.slot i = .active q r ∧ r.cancelRequested = false ∧
                    s.resumeTransaction = s.beginAttempt t)))) := by
  unfold State.resumeTransaction
  cases ht : s.transaction with
  | none => exact .inl rfl
  | some t =>
    cases hp : t.phase with
    | joinProbe => exact .inl (by simp only [hp])
    | mainFrame => exact .inl (by simp only [hp])
    | awaitMain => exact .inr ⟨t, rfl, .inl ⟨hp, by simp only [hp]⟩⟩
    | awaitRetry =>
      cases hsrc : t.source with
      | visit => exact .inl (by simp only [hp, hsrc])
      | request i =>
        refine .inr ⟨t, rfl, .inr ⟨hp, ?_⟩⟩
        cases hs : s.slot i with
        | free => exact .inl (by simp only [hp, hsrc, hs])
        | pending q r => exact .inl (by simp only [hp, hsrc, hs])
        | orphaned r => exact .inr ⟨i, hsrc, .inl (by simp only [hp, hsrc, hs])⟩
        | active q r =>
          cases hc : r.cancelRequested with
          | true => exact .inr ⟨i, hsrc, .inl (by simp [hp, hsrc, hs, hc])⟩
          | false => exact .inr ⟨i, hsrc, .inr ⟨q, r, hs, hc, by simp [hp, hsrc, hs, hc]⟩⟩

/-- A result judged: after the report to the directory, the report to the store and the slot's fields,
the attempt ends, or its main frame is awaited after a join probe that succeeded (R92, R93). -/
theorem State.handResult_cases (s : State) (t : Transaction) (sBit : Bool)
    (result : ExchangeResult) :
    ∃ j u, j = judge t.sentKind sBit (s.replyLimit t.source) result ∧
      u = ((s.applyReport t.station j.report).storeReport t.station j.store).writeSource j
        t.source ∧
      ((t.phase = .joinProbe ∧ j.verdict = .success ∧
          s.handResult t sBit result = u.setPhase t .awaitMain) ∨
        s.handResult t sBit result = u.endAttempt t j.verdict) := by
  refine ⟨_, _, rfl, rfl, ?_⟩
  simp only [State.handResult]
  split
  · exact .inl ⟨‹_ ∧ _›.1, ‹_ ∧ _›.2, rfl⟩
  · exact .inr rfl

/-! ### The tick of the timebase -/

/-- An expiry: no record, the state kept, or the holder's unit converted and the holder gone (R32). -/
theorem State.expire_cases (s : State) (target : Nat) :
    (s.claim? target = none ∧ s.expire target = s) ∨
      ∃ c, s.claim? target = some c ∧
        s.expire target = (s.convert c.holder (.claimExpired target)).holderLeaves target := by
  unfold State.expire
  cases h : s.claim? target with
  | none => exact .inl ⟨rfl, rfl⟩
  | some c => exact .inr ⟨c, rfl, rfl⟩

/-- The counting down of a tick changes the timebase, the claims' times, the lapse timers and the
note of what the tick has reached, and nothing else (R23, R162). -/
theorem State.countDown_frame (s : State) :
    ∃ claims records, s.countDown =
      { s with
        timebase := s.timebase + 1, ticked := ⟨[], []⟩, claims := claims, records := records } :=
  ⟨_, _, rfl⟩

@[simp] theorem State.countDown_get (s : State) (p : Port) :
    s.countDown.records.get p =
      if p ∈ s.ticked.ports then s.records.get p
      else { s.records.get p with timer := (s.records.get p).timer.map (· - 1) } := by
  cases p <;> rfl

/-- What a tick brings to its end: the records at 0, and the attached ports whose timer stands at 0. -/
theorem State.mem_tickEnds (s : State) (x : TickEnd) :
    x ∈ s.tickEnds ↔
      (∃ c ∈ s.claims, c.remaining = 0 ∧ x = .expiry c.target) ∨
        ∃ p, s.isAttached p = true ∧ (s.records.get p).timer = some 0 ∧ x = .lapse p := by
  simp only [State.tickEnds, List.mem_append, List.mem_map, List.mem_filter, beq_iff_eq]
  constructor
  · rintro (⟨c, ⟨hc, h0⟩, rfl⟩ | ⟨p, ⟨-, hp⟩, rfl⟩)
    · exact .inl ⟨c, hc, h0, rfl⟩
    · simp only [State.lapses, Bool.and_eq_true, decide_eq_true_eq] at hp
      exact .inr ⟨p, hp.1, hp.2, rfl⟩
  · rintro (⟨c, hc, h0, rfl⟩ | ⟨p, ha, ht, rfl⟩)
    · exact .inl ⟨c, ⟨hc, h0⟩, rfl⟩
    · exact .inr ⟨p, ⟨by cases p <;> decide, by simp [State.lapses, ha, ht]⟩, rfl⟩

/-- A property that one expiry or lapse keeps, whatever the count of free choices, holds after all of
a tick's (R32, R162). -/
theorem State.finishTick_induct (P : State → Prop)
    (picks : ∀ s, P s → P (s.withPicks (s.picks + 1)))
    (ends : ∀ s x, P s → P (s.takeEnd x)) (fuel : Nat) (s : State) (h : P s) :
    P (State.finishTick fuel s) := by
  induction fuel generalizing s with
  | zero => exact h
  | succ fuel ih =>
    unfold State.finishTick
    split
    · exact h
    · exact ends _ _ h
    · exact ih _ (ends _ _ (picks _ h))

/-- Where the counting down brings nothing to 0, that is the whole of the tick. -/
theorem State.finishTick_none (fuel : Nat) (s : State) (h : s.tickEnds = []) :
    State.finishTick fuel s = s := by
  cases fuel with
  | zero => rfl
  | succ fuel => simp [State.finishTick, h]

/-! ### The terms of the statements -/

/-- The end of a transaction in the terms of the statements (R63, R97). -/
theorem State.endTransaction_eq (s : State) : s.endTransaction = s.transactionOver := by
  simp only [State.endTransaction, State.transactionOver, State.clearTransaction]
  split <;> rfl

/-- A frame handed to the engine in the terms of the statements (R82, R107). -/
theorem State.handFrame_eq (s : State) (t : Transaction) (phase : Phase) (f : Frame) :
    s.handFrame t phase f = s.sendsFrame t phase f := rfl

/-! ### The receiver -/

/-- A lost character leaves nothing but the end of the cut (R105, R108). -/
theorem State.characterLost_eq (s : State) :
    s.characterLost = { s with engine := { s.engine with cutAcross := false } } := rfl

/-! ### Bits on SDI and SDO -/

/-- The bits of one byte, most significant first, are received as that byte (R152). -/
theorem sdiBytes_serialBits (b : Byte) (rest : List Bool) :
    sdiBytes (serialBits b ++ rest) = b :: sdiBytes rest := by
  have h : serialBits b =
      [b.getLsbD 7, b.getLsbD 6, b.getLsbD 5, b.getLsbD 4, b.getLsbD 3, b.getLsbD 2, b.getLsbD 1,
        b.getLsbD 0] := by
    simp [serialBits, List.range, List.range.loop, BitVec.getMsbD]
  rw [h]
  simp only [List.cons_append, List.nil_append, sdiBytes]
  congr 1
  revert b
  decide

end Sys2Proof.Machine
end

