-- ==== Sys2Proof/Laws/Packets.lean ====
section
/-! SUPPORT. What a valid packet does on each kind of port: the laws of takePacket, attachedOnly and
lineControl, which every host command goes through, and of the arguments they test. -/

namespace Sys2Proof.Machine

/-! ### The state in which a packet has been heard -/

@[simp] theorem State.heard_resetLow (s : State) (p : Port) :
    (s.heard p).resetLow = s.resetLow := rfl

@[simp] theorem State.heard_timebase (s : State) (p : Port) :
    (s.heard p).timebase = s.timebase := rfl

@[simp] theorem State.heard_windows (s : State) (p : Port) : (s.heard p).windows = s.windows := rfl

@[simp] theorem State.heard_queues (s : State) (p : Port) : (s.heard p).queues = s.queues := rfl

@[simp] theorem State.heard_directory (s : State) (p : Port) :
    (s.heard p).directory = s.directory := rfl

@[simp] theorem State.heard_claims (s : State) (p : Port) : (s.heard p).claims = s.claims := rfl

@[simp] theorem State.heard_slots (s : State) (p : Port) : (s.heard p).slots = s.slots := rfl

@[simp] theorem State.heard_lists (s : State) (p : Port) : (s.heard p).lists = s.lists := rfl

@[simp] theorem State.heard_scheduler (s : State) (p : Port) :
    (s.heard p).scheduler = s.scheduler := rfl

@[simp] theorem State.heard_transaction (s : State) (p : Port) :
    (s.heard p).transaction = s.transaction := rfl

@[simp] theorem State.heard_engine (s : State) (p : Port) : (s.heard p).engine = s.engine := rfl

@[simp] theorem State.heard_buffers (s : State) (p : Port) : (s.heard p).buffers = s.buffers := rfl

@[simp] theorem State.heard_picks (s : State) (p : Port) : (s.heard p).picks = s.picks := rfl

@[simp] theorem State.heard_pending (s : State) (p : Port) : (s.heard p).pending = s.pending := rfl

@[simp] theorem State.heard_station? (s : State) (p : Port) (a : Nat) :
    (s.heard p).station? a = s.station? a := rfl

@[simp] theorem State.heard_claim? (s : State) (p : Port) (t : Nat) :
    (s.heard p).claim? t = s.claim? t := rfl

@[simp] theorem State.heard_slot (s : State) (p : Port) (i : Nat) :
    (s.heard p).slot i = s.slot i := rfl

@[simp] theorem State.heard_isAttached (s : State) (p q : Port) :
    (s.heard p).isAttached q = s.isAttached q := by
  simp only [State.isAttached, State.heard, PerPort.get_set]
  split <;> rename_i h
  · subst h; split <;> rfl
  · rfl

@[simp] theorem State.heard_lineClaimBars (s : State) (p q : Port) :
    (s.heard p).lineClaimBars q = s.lineClaimBars q := rfl

/-- A packet heard on a detached port changes nothing (R162). -/
theorem State.heard_of_detached {s : State} {p : Port} (h : s.isAttached p = false) :
    s.heard p = s := by
  have h' : ¬ (s.records.get p).session = .attached := by simpa [State.isAttached] using h
  simp [State.heard, h']

/-! ### takePacket -/

/-- The claims that the tick in progress leaves out once a record's time is set, in the terms of the
statements (R23). -/
theorem State.claimSet_eq (s : State) (target : Nat) :
    s.claimSet target = { s with ticked := s.claimNoted target } := by
  unfold State.claimSet State.claimNoted State.reachClaim
  cases hb : s.ticked.begun with
  | false => simp only [Bool.false_eq_true, if_false, (Ticked.begun_eq_false _).1 hb, true_or, if_true]; rw [← (Ticked.begun_eq_false _).1 hb]
  | true =>
    have hne : s.ticked ≠ ⟨[], []⟩ := fun h => by simp [(Ticked.begun_eq_false _).2 h] at hb
    by_cases hm : target ∈ s.ticked.claims <;> simp [hne, hm, State.withTicked]

/-- The ports that the tick in progress leaves out once a timer is set, in the terms of the statements
(R162). -/
theorem State.timerSet_eq (s : State) (p : Port) :
    s.timerSet p = { s with ticked := s.timerNoted p } := by
  unfold State.timerSet State.timerNoted State.reachPort
  cases hb : s.ticked.begun with
  | false => simp only [Bool.false_eq_true, if_false, (Ticked.begun_eq_false _).1 hb, true_or, if_true]; rw [← (Ticked.begun_eq_false _).1 hb]
  | true =>
    have hne : s.ticked ≠ ⟨[], []⟩ := fun h => by simp [(Ticked.begun_eq_false _).2 h] at hb
    by_cases hm : p ∈ s.ticked.ports <;> simp [hne, hm, State.withTicked]

/-- A claim renewed: its record, what the tick leaves out, and the count of free choices (R29, R34). -/
theorem State.renewClaim_eq (s : State) (c : ClaimRecord) (d : Nat) :
    s.renewClaim c d =
      { s with
        claims := tablePut ClaimRecord.target { c with remaining := d } s.claims
        ticked :=
          if s.ticked = ⟨[], []⟩ ∧ c.remaining ≤ 1 ∧ d ≤ 1 ∧ Config.renewMeetsTick s.picks = true then
            ⟨[c.target], []⟩
          else s.claimNoted c.target
        picks :=
          if s.ticked = ⟨[], []⟩ ∧ c.remaining ≤ 1 ∧ d ≤ 1 then s.picks + 1 else s.picks } := by
  cases hb : s.ticked.begun with
  | true =>
    have hne : s.ticked ≠ ⟨[], []⟩ := fun h => by simp [(Ticked.begun_eq_false _).2 h] at hb
    have h := State.claimSet_eq (s.putClaim { c with remaining := d }) c.target
    simp only [State.claimSet, State.putClaim, State.withClaims_ticked, hb, if_true] at h
    simp only [State.renewClaim, hb, if_true, hne, false_and, if_false, State.putClaim]
    exact h
  | false =>
    have he := (Ticked.begun_eq_false _).1 hb
    have hn : s.claimNoted c.target = s.ticked := by simp [State.claimNoted, he]
    rw [hn]
    simp only [State.renewClaim, hb, Bool.false_eq_true, if_false]
    by_cases h1 : c.remaining ≤ 1 ∧ d ≤ 1
    · cases hm : Config.renewMeetsTick s.picks <;>
        simp [he, h1, State.reachClaim, State.putClaim, State.withClaims, State.withPicks,
          State.withTicked]
    · have h2 : ¬(s.ticked = ⟨[], []⟩ ∧ c.remaining ≤ 1 ∧ d ≤ 1) := fun h => h1 h.2
      have h3 : ¬(s.ticked = ⟨[], []⟩ ∧ c.remaining ≤ 1 ∧ d ≤ 1 ∧
          Config.renewMeetsTick s.picks = true) := fun h => h1 ⟨h.2.1, h.2.2.1⟩
      rw [if_neg h1, if_neg h2, if_neg h3]
      rfl
/-- A valid packet heard, in the terms of the statements (R162). -/
theorem State.hear_eq (s : State) (p : Port) : s.hear p = s.heard p := by
  simp only [State.hear, State.heard, PortRecord.restart, State.onRecord]
  by_cases h : (s.records.get p).session = .attached ∧ 0 < (s.records.get p).lapseTime
  · simp only [h, if_true, and_self, State.timerSet_eq]
    rfl
  · simp only [h, if_false]
    rfl

/-- A packet that completes in a window that receives one: the command has its effect and its
response is prepared (R153 to R156). -/
theorem State.takePacket_of_receives {s : State} {p : Port} (e : Effect) (h : s.Receives p) :
    s.takePacket p e =
      (e (s.heard p)).1.answer p (e (s.heard p)).2.status (e (s.heard p)).2.body := by
  simp only [State.takePacket, h, State.hear_eq]
  rfl

/-- Outside a window that receives a packet nothing changes. -/
theorem State.takePacket_of_not_receives {s : State} {p : Port} (e : Effect)
    (h : ¬ s.Receives p) : s.takePacket p e = s := by
  unfold State.takePacket
  split
  · exact absurd ‹_› h
  all_goals rfl

/-- On an attached port a command that needs a session has its effect (R155). -/
theorem State.takePacket_of_ready {s : State} {p : Port} (e : Effect) (h : s.Ready p) :
    s.takePacket p (attachedOnly p e) =
      (e (s.heard p)).1.answer p (e (s.heard p)).2.status (e (s.heard p)).2.body := by
  rw [State.takePacket_of_receives _ h.1]
  simp [attachedOnly, h.2]

/-- On a detached port a command that needs a session is refused NOT_ATTACHED (R155). -/
theorem State.takePacket_of_detached {s : State} {p : Port} (e : Effect) (h : s.Receives p)
    (hd : s.isAttached p = false) :
    s.takePacket p (attachedOnly p e) = s.answer p .notAttached [] := by
  rw [State.takePacket_of_receives _ h]
  simp [attachedOnly, hd, reply, State.heard_of_detached hd]

/-- The line-claim test passes exactly where no other port holds the line claim (R36). -/
theorem State.lineClaimBars_eq_false (s : State) (p : Port) :
    s.lineClaimBars p = false ↔ s.Controls p := by
  simp only [State.lineClaimBars, State.Controls]
  cases s.claim? 0 <;> simp

/-- A line-control command on a port that controls the line has its effect (R36). -/
theorem State.takePacket_of_controls {s : State} {p : Port} (e : Effect) (h : s.Ready p)
    (hc : s.Controls p) :
    s.takePacket p (lineControl p e) =
      (e (s.heard p)).1.answer p (e (s.heard p)).2.status (e (s.heard p)).2.body := by
  rw [lineControl, State.takePacket_of_ready _ h]
  simp [(State.lineClaimBars_eq_false s p).2 hc]

/-! ### Arguments -/

/-- A body that is not empty is not an empty body. -/
theorem noArg_of_ne {body : List Byte} (h : body ≠ []) : noArg body = false := by
  cases body with
  | nil => exact absurd rfl h
  | cons _ _ => rfl

/-- A flag byte: 0, 1 or no flag (R167). -/
theorem ofFlag_cases (v : Byte) :
    (1 < v.toNat ∧ ofFlag v = none) ∨ (v.toNat = 0 ∧ ofFlag v = some false) ∨
      (v.toNat = 1 ∧ ofFlag v = some true) := by
  simp only [ofFlag]
  match v.toNat with
  | 0 => simp
  | 1 => simp
  | _ + 2 => simp

/-- A body of one byte gives a target up to 126, or no target (R22). -/
theorem targetArg_cases (t : Byte) :
    (126 < t.toNat ∧ targetArg [t] = none) ∨ (t.toNat ≤ 126 ∧ targetArg [t] = some t.toNat) := by
  by_cases h : t.toNat ≤ 126
  · exact .inr ⟨h, by simp [targetArg, inRange, h]⟩
  · exact .inl ⟨by omega, by simp [targetArg, inRange, h]⟩

/-- A body of any other length gives no target. -/
theorem targetArg_of_length {body : List Byte} (h : body.length ≠ 1) : targetArg body = none := by
  match body, h with
  | [], _ => rfl
  | [_], h => exact absurd rfl h
  | _ :: _ :: _, _ => rfl

/-- The claim of a target as its holder finds it (R29, R30). -/
theorem State.heldBy?_of_some {s : State} {t : Nat} {c : ClaimRecord} (p : Port)
    (h : s.claim? t = some c) : s.heldBy? p t = if c.holder = p then some c else none := by
  rw [State.heldBy?, h]
  simp only [Option.filter]
  by_cases hp : c.holder = p <;> simp [hp]

theorem State.heldBy?_of_none {s : State} {t : Nat} (p : Port) (h : s.claim? t = none) :
    s.heldBy? p t = none := by simp [State.heldBy?, h]

/-- A retry-budget byte: 255 for the default, 0 to 7, or out of range (R46). -/
theorem retryArg_cases (v : Byte) :
    (v.toNat ≠ 255 ∧ 7 < v.toNat ∧ retryArg v = none) ∨
      (v.toNat = 255 ∧ retryArg v = some none) ∨
      (v.toNat ≤ 7 ∧ retryArg v = some (some v.toNat)) := by
  by_cases h : v = 0xFF#8
  · subst h; decide
  · have h' : v.toNat ≠ 255 := fun hh => h (by apply BitVec.eq_of_toNat_eq; simpa using hh)
    by_cases h7 : v.toNat ≤ 7
    · exact .inr (.inr ⟨h7, by simp [retryArg, h, inRange, h7]⟩)
    · exact .inl ⟨h', by omega, by simp [retryArg, h, inRange, h7]⟩

/-- A kind byte: 1 to 4 or no kind (Table 10-1). -/
theorem RequestKind.ofCode_eq_some (v : Byte) (k : RequestKind) :
    RequestKind.ofCode v = some k ↔ k.code = v := by
  constructor
  · intro h
    apply BitVec.eq_of_toNat_eq
    simp only [RequestKind.ofCode] at h
    split at h <;> simp_all <;> subst h <;> rfl
  · rintro rfl
    cases k <;> rfl

end Sys2Proof.Machine
end

