-- ==== Sys2Proof/Laws/PerInstr.lean ====
section
/-! SUPPORT. The family of per-command lemmas named in LAWS.json: the code under which a command
travels in a host packet reads back as that command (Table 10-3). -/

namespace Sys2Proof.Laws

/-- Where a well-formed command travels under a code of the part, that code names it, with its port
and its whole body. -/
def CodeAgrees.Statement (i : Instr) : Prop :=
  ∀ (p : Port) (code : Byte) (body : List Byte), i.wellFormed = true →
    i.packetParts = some (p, code, body) → isCommandCode code = true →
    commandOfCode code p body = some i

/-- A command whose parts read back agrees with its code. -/
theorem codeAgrees_of_parts {i : Instr} {q : Port} {c : Byte} {b : List Byte}
    (h : i.packetParts = some (q, c, b)) (h' : commandOfCode c q b = some i) :
    CodeAgrees.Statement i := by
  intro p code body _ hp _
  rw [h] at hp
  cases hp
  exact h'

/-- A step that no valid packet carries has no code. -/
theorem codeAgrees_of_none {i : Instr} (h : i.packetParts = none) : CodeAgrees.Statement i := by
  intro p code body _ hp _
  rw [h] at hp
  cases hp

theorem CodeAgrees.attach (p : Port) (b : List Byte) : Statement (.attach p b) :=
  codeAgrees_of_parts rfl rfl

theorem CodeAgrees.detach (p : Port) (b : List Byte) : Statement (.detach p b) :=
  codeAgrees_of_parts rfl rfl

theorem CodeAgrees.portStatus (p : Port) (b : List Byte) : Statement (.portStatus p b) :=
  codeAgrees_of_parts rfl rfl

theorem CodeAgrees.nextEvent (p : Port) (b : List Byte) : Statement (.nextEvent p b) :=
  codeAgrees_of_parts rfl rfl

theorem CodeAgrees.enroll (p : Port) (b : List Byte) : Statement (.enroll p b) :=
  codeAgrees_of_parts rfl rfl

theorem CodeAgrees.dismiss (p : Port) (b : List Byte) : Statement (.dismiss p b) :=
  codeAgrees_of_parts rfl rfl

theorem CodeAgrees.setStation (p : Port) (b : List Byte) : Statement (.setStation p b) :=
  codeAgrees_of_parts rfl rfl

theorem CodeAgrees.subscribe (p : Port) (b : List Byte) : Statement (.subscribe p b) :=
  codeAgrees_of_parts rfl rfl

theorem CodeAgrees.unsubscribe (p : Port) (b : List Byte) : Statement (.unsubscribe p b) :=
  codeAgrees_of_parts rfl rfl

theorem CodeAgrees.stationStatus (p : Port) (b : List Byte) : Statement (.stationStatus p b) :=
  codeAgrees_of_parts rfl rfl

theorem CodeAgrees.claim (p : Port) (b : List Byte) : Statement (.claim p b) :=
  codeAgrees_of_parts rfl rfl

theorem CodeAgrees.renew (p : Port) (b : List Byte) : Statement (.renew p b) :=
  codeAgrees_of_parts rfl rfl

theorem CodeAgrees.release (p : Port) (b : List Byte) : Statement (.release p b) :=
  codeAgrees_of_parts rfl rfl

theorem CodeAgrees.claimStatus (p : Port) (b : List Byte) : Statement (.claimStatus p b) :=
  codeAgrees_of_parts rfl rfl

theorem CodeAgrees.submit (p : Port) (b : List Byte) : Statement (.submit p b) :=
  codeAgrees_of_parts rfl rfl

theorem CodeAgrees.cancel (p : Port) (b : List Byte) : Statement (.cancel p b) :=
  codeAgrees_of_parts rfl rfl

theorem CodeAgrees.lineStart (p : Port) (b : List Byte) : Statement (.lineStart p b) :=
  codeAgrees_of_parts rfl rfl

theorem CodeAgrees.lineHalt (p : Port) (b : List Byte) : Statement (.lineHalt p b) :=
  codeAgrees_of_parts rfl rfl

theorem CodeAgrees.lineCut (p : Port) (b : List Byte) : Statement (.lineCut p b) :=
  codeAgrees_of_parts rfl rfl

theorem CodeAgrees.setPoll (p : Port) (b : List Byte) : Statement (.setPoll p b) :=
  codeAgrees_of_parts rfl rfl

theorem CodeAgrees.lineStatus (p : Port) (b : List Byte) : Statement (.lineStatus p b) :=
  codeAgrees_of_parts rfl rfl

theorem CodeAgrees.setLine (p : Port) (b : List Byte) : Statement (.setLine p b) :=
  codeAgrees_of_parts rfl rfl

theorem CodeAgrees.badPacket (p : Port) (b : List Byte) : Statement (.badPacket p b) :=
  codeAgrees_of_none rfl

theorem CodeAgrees.badCommand (p : Port) (c : Byte) (b : List Byte) :
    Statement (.badCommand p c b) := by
  intro q code body hw hp hc
  cases hp
  simp [Instr.wellFormed, hc] at hw

theorem CodeAgrees.fragment (p : Port) (b : List Byte) : Statement (.fragment p b) :=
  codeAgrees_of_none rfl

theorem CodeAgrees.timebaseTick : Statement .timebaseTick :=
  codeAgrees_of_none rfl

theorem CodeAgrees.claimExpiry (t : Nat) : Statement (.claimExpiry t) :=
  codeAgrees_of_none rfl

theorem CodeAgrees.lapse (p : Port) : Statement (.lapse p) :=
  codeAgrees_of_none rfl

theorem CodeAgrees.deviceReset : Statement .deviceReset :=
  codeAgrees_of_none rfl

theorem CodeAgrees.lastStopBitEnd : Statement .lastStopBitEnd :=
  codeAgrees_of_none rfl

theorem CodeAgrees.turnaroundEnd : Statement .turnaroundEnd :=
  codeAgrees_of_none rfl

theorem CodeAgrees.replyWindowEnd : Statement .replyWindowEnd :=
  codeAgrees_of_none rfl

theorem CodeAgrees.characterInListening (c : CharSamples) : Statement (.characterInListening c) :=
  codeAgrees_of_none rfl

theorem CodeAgrees.characterInReceiving (c : CharSamples) : Statement (.characterInReceiving c) :=
  codeAgrees_of_none rfl

theorem CodeAgrees.unsolicitedCharacter (c : CharSamples) : Statement (.unsolicitedCharacter c) :=
  codeAgrees_of_none rfl

theorem CodeAgrees.characterGapLimit : Statement .characterGapLimit :=
  codeAgrees_of_none rfl

theorem CodeAgrees.interFrameGapEnd : Statement .interFrameGapEnd :=
  codeAgrees_of_none rfl

theorem CodeAgrees.acceptedStartBit (b : BitSamples) : Statement (.acceptedStartBit b) :=
  codeAgrees_of_none rfl

theorem CodeAgrees.deviceResetEnds : Statement .deviceResetEnds :=
  codeAgrees_of_none rfl

theorem CodeAgrees.selectFalls (p : Port) : Statement (.selectFalls p) :=
  codeAgrees_of_none rfl

theorem CodeAgrees.selectRises (p : Port) : Statement (.selectRises p) :=
  codeAgrees_of_none rfl

end Sys2Proof.Laws
end

