-- ==== Sys2Proof/Laws/Reports.lean ====
section
/-! SUPPORT. The laws of the Report Store: what the offers of a report leave in each queue, the lowest
free buffer, and the case split of a judgement. -/

namespace Sys2Proof.Machine

/-- The offers of one report to subscribers of distinct ports: each attached one is offered the notice
with its own gap flag, and no other queue changes (R130). -/
theorem State.offerReport_queue (s : State) {subs : List Subscription}
    (hn : (subs.map Subscription.port).Nodup) (r : ReportNotice) (q : Port) :
    (s.offerReport subs r).queues.get q =
      match subs.find? (fun x => decide (x.port = q)) with
      | none => s.queues.get q
      | some x =>
        if s.isAttached q = true then
          (s.queues.get q).offer (.report { r with gap := x.gap })
        else s.queues.get q := by
  induction subs generalizing s with
  | nil => rfl
  | cons y ys ih =>
    simp only [List.map_cons, List.nodup_cons] at hn
    have h := ih (s.offer y.port (.report { r with gap := y.gap })) hn.2
    simp only [State.offerReport, List.foldl_cons] at h ⊢
    rw [h, State.offer_isAttached, State.offer_queue]
    by_cases hq : y.port = q
    · subst hq
      have hnone : ys.find? (fun x => decide (x.port = y.port)) = none := by
        rw [List.find?_eq_none]
        intro z hz
        simpa using fun hzy : z.port = y.port => hn.1 (List.mem_map.2 ⟨z, hz, hzy⟩)
      simp [hnone]
    · simp [hq, Ne.symm hq]

/-- The buffer filled is the lowest free one (R124). -/
theorem State.freeBuffer?_eq_some (s : State) (i : Nat) :
    s.freeBuffer? = some i ↔
      i < s.buffers.length ∧ s.buffers.getD i none = none ∧
        ∀ j < i, s.buffers.getD j none ≠ none := by
  simp only [State.freeBuffer?, List.find?_range_eq_some]
  constructor
  · rintro ⟨h1, h2, h3⟩
    refine ⟨by simpa using h2, by simpa using h1, fun j hj h => ?_⟩
    have h4 := h3 j hj
    rw [h] at h4
    exact absurd h4 (by decide)
  · rintro ⟨h1, h2, h3⟩
    refine ⟨by simp only [h2]; rfl, by simpa using h1, fun j hj => ?_⟩
    simpa [Option.isSome_iff_ne_none] using h3 j hj

/-- Every judgement leaves the state, changes the entry alone, or delivers the report into a free
buffer (Table 7-2). -/
theorem State.judgeReport_cases (s : State) (a : Nat) (sBit : Bool) (payload : List Byte)
    (noise : Bool) :
    s.judgeReport a sBit payload noise = s ∨
      ∃ e, s.station? a = some e ∧
        (s.judgeReport a sBit payload noise = s.putStation (e.consumed true) ∨
          s.judgeReport a sBit payload noise =
            s.putStation { e with deferredReports := satInc 65535 e.deferredReports } ∨
          ∃ i, s.freeBuffer? = some i ∧
            s.judgeReport a sBit payload noise = s.deliverReport e i payload noise) := by
  unfold State.judgeReport
  split
  · exact .inl rfl
  · rename_i e he
    split
    · exact .inl rfl
    · refine .inr ⟨e, he, ?_⟩
      split
      · exact .inl rfl
      · split
        · exact .inr (.inl rfl)
        · exact .inr (.inr ⟨_, ‹_›, rfl⟩)

end Sys2Proof.Machine
end

