-- ==== Sys2Proof/Laws/Selection.lean ====
section
/-! SUPPORT. The laws of a selection: what a candidate and a choice are, that the fuel of choosing is
never used up, and the one case split that says what a selection can do. -/

namespace Sys2Proof.Machine

/-! ### Candidates and choices -/

/-- A candidate stands in its port's list and is eligible (R68). -/
theorem State.candidate?_some {s : State} {p : Port} {i : Nat} (h : s.candidate? p = some i) :
    i ∈ s.lists.get p ∧ s.eligible i = true :=
  ⟨List.mem_of_find?_eq_some h, List.find?_some h⟩

/-- An eligible slot is PENDING, and no other port holds a claim on its target (R35, R67). -/
theorem State.eligible_eq {s : State} {i : Nat} (h : s.eligible i = true) :
    ∃ p r, s.slot i = .pending p r ∧ s.claimAllows p r = true := by
  unfold State.eligible at h
  split at h
  · exact ⟨_, _, ‹_›, h⟩
  all_goals exact absurd h (by simp)

/-- A chosen slot is the candidate of the chosen port (R69). -/
theorem State.requestChoice?_some {s : State} {p : Port} {i : Nat}
    (h : s.requestChoice? = some (p, i)) : s.candidate? p = some i := by
  simp only [State.requestChoice?] at h
  cases hu : s.urgentChoice? with
  | some x =>
    rw [hu] at h
    simp at h
    subst h
    simp only [State.urgentChoice?] at hu
    obtain ⟨q, -, hq⟩ := List.exists_of_findSome?_eq_some hu
    cases hc : s.candidate? q with
    | none => simp [hc] at hq
    | some j =>
      simp only [hc, Option.bind_some] at hq
      split at hq <;> simp at hq
      obtain ⟨rfl, rfl⟩ := hq
      exact hc
  | none =>
    rw [hu] at h
    simp only [Option.orElse, State.anyChoice?] at h
    obtain ⟨q, -, hq⟩ := List.exists_of_findSome?_eq_some h
    cases hc : s.candidate? q with
    | none => simp [hc] at hq
    | some j =>
      simp [hc] at hq
      obtain ⟨rfl, rfl⟩ := hq
      exact hc

/-- Nothing is chosen exactly where no port has a candidate. -/
theorem State.requestChoice?_none (s : State) :
    s.requestChoice? = none ↔ ∀ p, s.candidate? p = none := by
  constructor
  · intro h p
    simp only [State.requestChoice?] at h
    cases hu : s.urgentChoice? with
    | some x => rw [hu] at h; simp at h
    | none =>
      rw [hu] at h
      simp only [Option.orElse, State.anyChoice?, List.findSome?_eq_none_iff] at h
      simpa using h p (by simp)
  · intro h
    simp [State.requestChoice?, State.urgentChoice?, State.anyChoice?, h]

/-! ### The beginning of an attempt -/

/-- An attempt that begins changes the slot it counts, the record and the engine, which is sending
(R82, R107). -/
theorem State.beginAttempt_effect (s : State) (t : Transaction) :
    (s.beginAttempt t).scheduler = s.scheduler ∧
    (s.beginAttempt t).slots = (s.countAttempt t.source).slots ∧
    (s.beginAttempt t).transaction.isSome = true ∧
    (s.beginAttempt t).engine.phase = .sending ∧ (s.beginAttempt t).engine.de = true := by
  simp only [State.beginAttempt]
  split <;> simp [State.handFrame, Engine.take]

/-- A visit that begins changes no slot and makes the line busy. -/
theorem State.beginVisit_effect (s : State) (a credit : Nat) :
    (s.beginVisit a credit).scheduler.busy = .visit a ∧
    (s.beginVisit a credit).slots = s.slots ∧
    (s.beginVisit a credit).transaction.isSome = true ∧
    (s.beginVisit a credit).engine.phase = .sending ∧
    (s.beginVisit a credit).engine.de = true := by
  obtain ⟨h1, h2, h3, h4, h5⟩ := State.beginAttempt_effect
    (s.withScheduler
      { s.scheduler with
        cursor := a
        visits :=
          if s.scheduler.mode = .once then satInc 64 s.scheduler.visits else s.scheduler.visits
        credit := credit, busy := .visit a })
    { source := .visit, station := a, main := if s.isOffline a then .probe else .poll
      phase := .mainFrame }
  exact ⟨by rw [State.beginVisit, h1]; rfl, h2, h3, h4, h5⟩

/-- A request that begins changes its own slot alone, which becomes ACTIVE, and makes the line
busy. -/
theorem State.beginRequest_effect (s : State) (p : Port) (i : Nat) (r : Request) :
    (s.beginRequest p i r).scheduler.busy = .request i ∧
    (∃ x, (s.beginRequest p i r).slots = s.slots.set i x) ∧
    (s.beginRequest p i r).transaction.isSome = true ∧
    (s.beginRequest p i r).engine.phase = .sending ∧
    (s.beginRequest p i r).engine.de = true := by
  simp only [State.beginRequest]
  obtain ⟨h1, h2, h3, h4, h5⟩ := State.beginAttempt_effect
    ((s.setSlot i
      (.active p
        { r with retryBudget := some (r.retryBudget.getD s.engine.active.retryBudget) })).withScheduler
      { s.scheduler with credit := satInc 8 s.scheduler.credit, busy := .request i })
    { source := .request i, station := r.station, main := r.kind.main, phase := .mainFrame }
  refine ⟨by rw [h1]; rfl, ?_, h3, h4, h5⟩
  rw [h2]
  exact ⟨_, by simp [State.countAttempt, State.writeSlot, State.setSlot, State.withSlots]; rfl⟩

/-! ### Fuel -/

theorem State.waiting_eq (s : State) :
    s.waiting = (s.lists.get .a).length + ((s.lists.get .b).length +
      ((s.lists.get .c).length + (s.lists.get .d).length)) := by
  simp [State.waiting, Port.all]

/-- A listed slot taken off its list leaves fewer entries. -/
theorem State.waiting_takeChoice {s : State} {p : Port} {i : Nat} (h : i ∈ s.lists.get p)
    (status : CompletionStatus) :
    ((s.takeChoice p i).endRequest i status).waiting < s.waiting := by
  have hl : ((s.takeChoice p i).endRequest i status).lists =
      s.lists.set p ((s.lists.get p).filter (· != i)) := by
    simp [State.takeChoice, State.unlist, State.onList]
  have hlt : ((s.lists.get p).filter (· != i)).length < (s.lists.get p).length := by
    rw [List.length_filter_lt_length_iff_exists]
    exact ⟨i, h, by simp⟩
  rw [State.waiting_eq, State.waiting_eq, hl]
  cases p <;> simp_all [PerPort.get, PerPort.set]

/-- A fuel above the number of waiting entries is never used up. -/
theorem State.choose_fuel (n m : Nat) (found : Option Nat) (s : State) (hn : s.waiting < n)
    (hm : s.waiting < m) : State.choose n found s = State.choose m found s := by
  induction n generalizing s m with
  | zero => omega
  | succ n ih =>
    cases m with
    | zero => omega
    | succ m =>
      simp only [State.choose]
      split
      · rfl
      · split
        · rename_i p i hc
          split
          · split
            · have := State.waiting_takeChoice
                (State.candidate?_some (State.requestChoice?_some hc)).1 .stationOffline
              exact ih _ _ (by omega) (by omega)
            · rfl
          all_goals rfl
        · rfl

/-- The one case split of the choosing. A property `P` that a request ended with STATION_OFFLINE keeps
holds until the choosing begins a visit, begins a request or finds nothing; what then follows from `P`
holds of what a selection gives (R69, R72). -/
theorem State.choose_cases {found : Option Nat} (P Q : State → Prop)
    (offline : ∀ s p i q r, P s → s.candidate? p = some i → s.slot i = .pending q r →
      s.endsAtSelection r = true → P ((s.takeChoice p i).endRequest i .stationOffline))
    (visit : ∀ s a credit, P s → found = some a → Q (s.beginVisit a credit))
    (request : ∀ s p i q r, P s → s.candidate? p = some i → s.slot i = .pending q r →
      s.endsAtSelection r = false → Q ((s.takeChoice p i).beginRequest p i r))
    (nothing : ∀ s, P s → found = none → (∀ p, s.candidate? p = none) → Q s)
    (n : Nat) (s : State) (hn : s.waiting < n) (h : P s) : Q (State.choose n found s) := by
  induction n generalizing s with
  | zero => omega
  | succ n ih =>
    simp only [State.choose]
    split
    · rename_i a ha
      exact visit s a 0 h (by
        cases found with
        | none => simp at ha
        | some b => simp at ha; simp [ha.1])
    · cases hc : s.requestChoice? with
      | some x =>
        obtain ⟨p, i⟩ := x
        have hcand := State.requestChoice?_some hc
        obtain ⟨hmem, hel⟩ := State.candidate?_some hcand
        obtain ⟨q, r, hs, -⟩ := State.eligible_eq hel
        simp only [hs]
        split
        · rename_i he
          have := State.waiting_takeChoice hmem .stationOffline
          exact ih _ (by omega) (offline s p i q r h hcand hs he)
        · rename_i he
          exact request s p i q r h hcand hs (by simpa using he)
      | none =>
        cases found with
        | some a => exact visit s a _ h rfl
        | none => exact nothing s h rfl ((State.requestChoice?_none s).1 hc)

@[simp] theorem State.sweepSearch_waiting (s : State) : s.sweepSearch.waiting = s.waiting := by
  simp [State.waiting]

/-- A selection on a free line is the choosing, with any fuel above the number of waiting entries. -/
theorem State.select_of_free {s : State} (h : s.lineFree = true) {n : Nat} (hn : s.waiting < n) :
    s.select = State.choose n s.sweepFinds? s.sweepSearch := by
  rw [State.select, if_pos h]
  exact State.choose_fuel _ _ _ _ (by simp) (by simpa using hn)

/-- On a line that is not free no selection is made (R66). -/
theorem State.select_of_not_free {s : State} (h : s.lineFree = false) : s.select = s := by
  simp [State.select, h]

/-- The fields that say whether the line is free. -/
theorem State.lineFree_congr {s t : State} (h1 : s.scheduler.line = t.scheduler.line)
    (h2 : s.engine.phase = t.engine.phase) (h3 : s.scheduler.busy = t.scheduler.busy) :
    s.lineFree = t.lineFree := by simp only [State.lineFree, h1, h2, h3]

end Sys2Proof.Machine
end

