-- ==== Sys2Proof/Laws/Step.lean ====
section
/-! SUPPORT. How an invariant of the commands becomes an invariant of the step. -/

namespace Sys2Proof.Machine

/-- A property that does not speak of the queue of commands, and that every command keeps, is kept by
every step. -/
theorem step_keeps (P : State → Prop) (queue : ∀ s x, P s → P { s with pending := x })
    (commands : ∀ c s t, P s → exec c s = .next t → P t) {s t : State} (h : P s)
    (hs : step s = .next t) : P t := by
  unfold step at hs
  split at hs
  · cases hs
    exact h
  · exact commands _ _ _ (queue _ _ h) hs

end Sys2Proof.Machine
end

