-- ==== Sys2Proof/Laws/Tables.lean ====
section
/-! SUPPORT. The laws of a table keyed by a number and held in rising order of its keys: what a find
gives after a put or a drop, and that both keep the order. -/

namespace Sys2Proof.Machine

/-- The table stands in rising order of its keys. -/
abbrev Rising {α : Type} (key : α → Nat) (t : List α) : Prop :=
  t.Pairwise (fun x y => key x < key y)

theorem tableFind_none {α : Type} (key : α → Nat) (k : Nat) (t : List α) :
    tableFind key k t = none ↔ ∀ x ∈ t, key x ≠ k := by
  simp [tableFind]

theorem tableFind_some {α : Type} {key : α → Nat} {k : Nat} {t : List α} {x : α}
    (h : tableFind key k t = some x) : x ∈ t ∧ key x = k :=
  ⟨List.mem_of_find?_eq_some h, by simpa using List.find?_some h⟩

/-- In a rising table an entry is the one found at its key. -/
theorem tableFind_of_mem {α : Type} {key : α → Nat} {t : List α} (h : Rising key t) {x : α}
    (hx : x ∈ t) : tableFind key (key x) t = some x := by
  induction t with
  | nil => cases hx
  | cons y t ih =>
    obtain ⟨hy, ht⟩ := List.pairwise_cons.1 h
    rcases List.mem_cons.1 hx with rfl | hx
    · simp [tableFind]
    · have hne : key y ≠ key x := Nat.ne_of_lt (hy x hx)
      have := ih ht hx
      simp only [tableFind] at this ⊢
      simp [hne, this]

theorem mem_tablePut {α : Type} {key : α → Nat} {x y : α} {t : List α}
    (h : y ∈ tablePut key x t) : y = x ∨ y ∈ t := by
  induction t with
  | nil => simpa [tablePut] using h
  | cons z t ih =>
    simp only [tablePut] at h
    split at h
    · simpa using h
    · split at h
      · rcases List.mem_cons.1 h with rfl | h
        · exact .inl rfl
        · exact .inr (List.mem_cons_of_mem _ h)
      · rcases List.mem_cons.1 h with rfl | h
        · exact .inr (List.mem_cons_self ..)
        · rcases ih h with rfl | h
          · exact .inl rfl
          · exact .inr (List.mem_cons_of_mem _ h)

theorem self_mem_tablePut {α : Type} (key : α → Nat) (x : α) (t : List α) :
    x ∈ tablePut key x t := by
  induction t with
  | nil => simp [tablePut]
  | cons z t ih =>
    simp only [tablePut]
    split
    · simp
    · split
      · simp
      · exact List.mem_cons_of_mem _ ih

/-- A put keeps the order. -/
theorem rising_tablePut {α : Type} {key : α → Nat} (x : α) {t : List α} (h : Rising key t) :
    Rising key (tablePut key x t) := by
  induction t with
  | nil => simp [tablePut]
  | cons z t ih =>
    obtain ⟨hz, ht⟩ := List.pairwise_cons.1 h
    simp only [tablePut]
    split
    · rename_i hlt
      refine List.pairwise_cons.2 ⟨fun w hw => ?_, h⟩
      rcases List.mem_cons.1 hw with rfl | hw
      · exact hlt
      · exact Nat.lt_trans hlt (hz w hw)
    · split
      · rename_i heq
        exact List.pairwise_cons.2 ⟨fun w hw => heq ▸ hz w hw, ht⟩
      · rename_i h1 h2
        refine List.pairwise_cons.2 ⟨fun w hw => ?_, ih ht⟩
        rcases mem_tablePut hw with rfl | hw
        · omega
        · exact hz w hw

/-- A drop keeps the order. -/
theorem rising_tableDrop {α : Type} {key : α → Nat} (k : Nat) {t : List α} (h : Rising key t) :
    Rising key (tableDrop key k t) := h.filter _

theorem tableFind_put_self {α : Type} (key : α → Nat) (x : α) {t : List α} (h : Rising key t) :
    tableFind key (key x) (tablePut key x t) = some x :=
  tableFind_of_mem (rising_tablePut x h) (self_mem_tablePut key x t)

theorem tableFind_put_ne {α : Type} {key : α → Nat} {x : α} {k : Nat} (hk : k ≠ key x)
    (t : List α) : tableFind key k (tablePut key x t) = tableFind key k t := by
  induction t with
  | nil => simp [tablePut, tableFind, Ne.symm hk]
  | cons z t ih =>
    simp only [tableFind, tablePut] at ih ⊢
    split
    · simp [Ne.symm hk]
    · split
      · rename_i heq
        simp [Ne.symm hk, ← heq]
      · simp only [List.find?_cons, ih]

theorem tableFind_drop_self {α : Type} (key : α → Nat) (k : Nat) (t : List α) :
    tableFind key k (tableDrop key k t) = none := by
  simp [tableFind, tableDrop]

theorem tableFind_drop_ne {α : Type} {key : α → Nat} {k l : Nat} (h : l ≠ k) (t : List α) :
    tableFind key l (tableDrop key k t) = tableFind key l t := by
  induction t with
  | nil => rfl
  | cons z t ih =>
    simp only [tableFind, tableDrop] at ih ⊢
    by_cases hz : key z = k
    · simp [hz, ih, Ne.symm h]
    · simp [hz, List.find?_cons, ih]

/-- A put in the place of an entry keeps the length. -/
theorem length_tablePut_of_mem {α : Type} {key : α → Nat} {x y : α} {t : List α}
    (h : Rising key t) (hy : y ∈ t) (hk : key y = key x) :
    (tablePut key x t).length = t.length := by
  induction t with
  | nil => cases hy
  | cons z t ih =>
    obtain ⟨hz, ht⟩ := List.pairwise_cons.1 h
    simp only [tablePut]
    rcases List.mem_cons.1 hy with rfl | hy
    · simp [hk]
    · have := hz y hy
      have h1 : ¬ key x < key z := by omega
      have h2 : ¬ key x = key z := by omega
      simp [h1, h2, ih ht hy]

theorem length_tablePut_le {α : Type} (key : α → Nat) (x : α) (t : List α) :
    (tablePut key x t).length ≤ t.length + 1 := by
  induction t with
  | nil => simp [tablePut]
  | cons z t ih =>
    simp only [tablePut]
    split
    · simp
    · split
      · simp
      · simpa using ih

/-! ### Stations and claims -/

theorem State.station?_none (s : State) (a : Nat) :
    s.station? a = none ↔ ∀ e ∈ s.directory, e.address ≠ a := tableFind_none ..

theorem State.station?_some {s : State} {a : Nat} {e : StationEntry} (h : s.station? a = some e) :
    e ∈ s.directory ∧ e.address = a := tableFind_some h

theorem State.claim?_none (s : State) (t : Nat) :
    s.claim? t = none ↔ ∀ c ∈ s.claims, c.target ≠ t := tableFind_none ..

theorem State.claim?_some {s : State} {t : Nat} {c : ClaimRecord} (h : s.claim? t = some c) :
    c ∈ s.claims ∧ c.target = t := tableFind_some h

/-- The address of an entry of a sound directory passes the address check (R2). -/
theorem State.DirectoryOk.inRange {s : State} (hd : s.DirectoryOk) {a : Nat} {e : StationEntry}
    (h : s.station? a = some e) : inRange 1 126 a = true := by
  obtain ⟨hm, rfl⟩ := State.station?_some h
  have := (hd.2.2 e hm).1
  simp [Machine.inRange, this]

end Sys2Proof.Machine
end

