-- ==== Sys2Proof/Tests/Slice0.lean ====
section
/-! SUPPORT. Tests of single steps against values the manual gives, a refused term for each test of
WellFormed, and for every statement with hypotheses a state and operands that meet them together. -/

namespace Sys2Proof.Tests

open Sys2Proof Sys2Proof.Machine

/-! ### Small states -/

/-- The state that a command on a state gives. -/
def after (i : Instr) (s : State) : State :=
  match exec i s with
  | .next t => t
  | .fault _ | .refused _ => s

/-- The response prepared on a port. -/
def answer? (s : State) (p : Port) : Option Response :=
  match s.windows.get p with
  | .answered r => some r
  | .closed | .ignored | .receiving => none

/-- A port record of a session without a lapse time. -/
def attached : PortRecord :=
  { session := .attached, number := 1, lapseTime := 0, timer := none, cause := .none
    fragments := 0 }

/-- Ports A and B attached, C and D detached, a window open on each. -/
def base : State :=
  { State.reset with
    records := ⟨attached, attached, .reset, .reset⟩
    windows := ⟨.receiving, .receiving, .receiving, .receiving⟩ }

/-- An ONLINE station with port B subscribed. -/
def station17 : StationEntry :=
  { StationEntry.enrolled 17 true with
    state := .online, synchronised := true, subscribers := [⟨.b, false⟩] }

/-- The base state with station 17. -/
def enrolled : State := { base with directory := [station17] }

/-- Port A holds station 17 for 5 ms, and port B waits for it for 7 ms. -/
def claimed : State :=
  { enrolled with
    claims := [{ target := 17, holder := .a, remaining := 5, waiters := [⟨.b, 7⟩] }]
    queues :=
      ⟨{ EventQueue.reset with reserved := 1 }, { EventQueue.reset with reserved := 2 }, .reset,
        .reset⟩ }

/-- A SEND of one byte to station 17 with tag 9. -/
def send9 : Request :=
  { tag := 9, kind := .send, station := 17, urgent := false, retryBudget := some 1
    replyLimit := none, payload := [0x55#8], attempts := 0, cancelRequested := false
    lastFault := none, nakReason := none, replyPayload := none }

/-- Port A's SEND waits in slot 0 of a line that is RUNNING and free. -/
def waiting : State :=
  { enrolled with
    slots := .pending .a send9 :: List.replicate 31 .free
    lists := ⟨[0], [], [], []⟩
    queues := ⟨{ EventQueue.reset with reserved := 1 }, .reset, .reset, .reset⟩
    scheduler := { Scheduler.reset with line := .running } }

/-- The SEND's frame. -/
def frame9 : Frame := { address := 17, kind := .send, sBit := false, payload := [0x55#8] }

/-- Port A's SEND is on the line, its frame being sent. -/
def sending : State :=
  { waiting with
    slots := .active .a { send9 with attempts := 1 } :: List.replicate 31 .free
    lists := ⟨[], [], [], []⟩
    scheduler :=
      { Scheduler.reset with line := .running, credit := 1, pointer := .a, busy := .request 0 }
    transaction := some { source := .request 0, station := 17, main := .send, phase := .mainFrame }
    engine := { Engine.reset with phase := .sending, de := true, exchange := some frame9 } }

/-- The engine of `sending` in another phase of its exchange. -/
def exchanging (phase : EnginePhase) (windowOpen : Bool) (receiving : Option Bool)
    (assembly : List Character) : State :=
  { sending with
    engine :=
      { Engine.reset with
        phase := phase, exchange := some frame9, windowOpen := windowOpen
        receiving := receiving, assembly := assembly } }

/-- The head of a reply of station 17. -/
def head17 : Character := { data := 0x91#8, mark := true, framing := false, noise := false }

/-- The gap before the next attempt of port A's SEND. -/
def retrying : State :=
  { sending with
    transaction := some { source := .request 0, station := 17, main := .send, phase := .awaitRetry }
    engine := { Engine.reset with phase := .gap } }

/-- Port B's queue holds a REPORT of buffer 0, which holds its payload. -/
def reported : State :=
  { enrolled with
    queues :=
      ⟨.reset,
        { notices := [.report ⟨17, 0, 2, false, false⟩], reserved := 0, missed := 3, attn := true },
        .reset, .reset⟩
    buffers :=
      some { station := 17, payload := [0x01#8, 0x02#8], noise := false, refs := 1 } ::
        List.replicate 15 none }

/-! ### WellFormed refuses an ill-formed term for each of its tests -/

/-- A body of 41 bytes (R153). -/
def longBody : List Byte := List.replicate 41 0x00#8

theorem test_wellFormed_refuses_long_bodies :
    [Instr.attach .a longBody, .detach .a longBody, .portStatus .a longBody,
      .nextEvent .a longBody, .enroll .a longBody, .dismiss .a longBody, .setStation .a longBody,
      .subscribe .a longBody, .unsubscribe .a longBody, .stationStatus .a longBody,
      .claim .a longBody, .renew .a longBody, .release .a longBody, .claimStatus .a longBody,
      .submit .a longBody, .cancel .a longBody, .lineStart .a longBody, .lineHalt .a longBody,
      .lineCut .a longBody, .setPoll .a longBody, .lineStatus .a longBody, .setLine .a longBody,
      .badCommand .a 0x00#8 longBody].all (fun i => !i.wellFormed) = true := by decide

theorem test_wellFormed_refuses_a_good_packet_as_bad :
    (Instr.badPacket .a [0x04#8, 0x00#8, 0xFC#8]).wellFormed = false := by decide

theorem test_wellFormed_refuses_bytes_after_a_packet :
    (Instr.badPacket .a [0x04#8, 0x00#8, 0xFD#8, 0x00#8]).wellFormed = false := by decide

theorem test_wellFormed_refuses_a_command_as_no_command :
    (Instr.badCommand .a 0x01#8 []).wellFormed = false := by decide

theorem test_wellFormed_refuses_an_empty_fragment :
    (Instr.fragment .a []).wellFormed = false := by decide

theorem test_wellFormed_refuses_a_whole_packet_as_fragment :
    (Instr.fragment .a [0x04#8, 0x00#8, 0xFC#8]).wellFormed = false := by decide

theorem test_wellFormed_refuses_target_127 : (Instr.claimExpiry 127).wellFormed = false := by
  decide

theorem test_wellFormed_refuses_rejected_start_bits :
    [Instr.characterInListening { CharSamples.clean 0x00#8 true with start := .clean true },
      .characterInReceiving { CharSamples.clean 0x00#8 true with start := .clean true },
      .unsolicitedCharacter { CharSamples.clean 0x00#8 true with start := .clean true },
      .acceptedStartBit ⟨true, false, true⟩].all (fun i => !i.wellFormed) = true := by decide

/-! ### Packets, frames and check bytes: values the manual gives -/

/-- "A NEXT_EVENT command is 0x04, 0x00, 0xFC" (chapter 10, section 10.1). -/
theorem test_nextEvent_packet :
    (Instr.nextEvent .c []).toPacket = some [0x04#8, 0x00#8, 0xFC#8] ∧
      Instr.ofPacket .c [0x04#8, 0x00#8, 0xFC#8] = some (.nextEvent .c []) := by decide

/-- The response to NEXT_EVENT on an empty queue (chapter 10, section 10.1). -/
theorem test_nextEvent_empty_response :
    ((answer? (after (.nextEvent .a []) base) .a).map Response.packet) =
      some [0xA7#8, 0x00#8, 0x03#8, 0x00#8, 0x00#8, 0x00#8, 0x56#8] := by decide

/-- A length byte of 41 completes the packet, which is bad (R153, R154). -/
theorem test_length_41_is_bad :
    Instr.ofPacket .a [0x01#8, 0x29#8] = some (.badPacket .a [0x01#8, 0x29#8]) := by decide

/-- The CRC of an ACK of station 9 after its head, control and length (R171). -/
theorem test_crc_of_ack :
    crc8 [0x89#8] = 0xB6#8 ∧ crc8 [0x89#8, 0x08#8] = 0x33#8 ∧
      crc8 [0x89#8, 0x08#8, 0x00#8] = 0x99#8 := by decide

/-- A POLL to station 9 with S 1: head 0x09, control 0x13, length 0x00 (R171). -/
theorem test_poll_bytes :
    (Frame.dataBytes { address := 9, kind := .poll, sBit := true, payload := [] }).take 3 =
      [0x09#8, 0x13#8, 0x00#8] := by decide

/-- R152: 0x01 comes as seven bits 0 and a bit 1, and the bits of a byte that is not whole are
discarded. -/
theorem test_sdi_most_significant_bit_first :
    sdiBytes (List.replicate 7 false ++ [true, true, false, true]) = [0x01#8] := by decide

/-- R152, R156: the first wait byte 0xEE and, after one of them, the start byte 0xA7, most significant
bit first. -/
theorem test_sdo_most_significant_bit_first :
    (List.range 16).map ((Window.answered ⟨.ok, []⟩).sdoBit 0) =
      [true, true, true, false, true, true, true, false,
        true, false, true, false, false, true, true, true].map some := by decide

/-- No word spells a command: the table gives no row any bits. -/
theorem test_no_word_is_a_command : decodeTableWord 8 1 = none := by decide

/-! ### One step of each command -/

/-- R159: the session number goes from 255 to 1, and a lapse time of 50 starts the timer. -/
theorem test_attach_wraps_the_session_number :
    let s := { base with records := base.records.set .c { PortRecord.reset with number := 255 } }
    (after (.attach .c [0x00#8, 0x32#8]) s).records.get .c =
        { session := .attached, number := 1, lapseTime := 50, timer := some 50, cause := .none
          fragments := 0 } ∧
      answer? (after (.attach .c [0x00#8, 0x32#8]) s) .c = some ⟨.ok, [0x01#8, 0x01#8]⟩ := by
  decide

/-- R159: 49 ms is no lapse time. -/
theorem test_attach_refuses_49 :
    answer? (after (.attach .c [0x00#8, 0x31#8]) base) .c = some ⟨.badArgument, []⟩ := by decide

/-- R164: port B's wait, subscription and queue go. -/
theorem test_detach_leaves_the_wait_list :
    (after (.detach .b []) claimed).claims =
        [{ target := 17, holder := .a, remaining := 5, waiters := [] }] ∧
      (after (.detach .b []) claimed).queues.get .b = .reset := by decide

/-- R161 on a detached port: every item is 0. -/
theorem test_portStatus_of_a_detached_port :
    answer? (after (.portStatus .d []) base) .d = some ⟨.ok, List.replicate 13 0x00#8⟩ := by decide

/-- R145, R132: the payload follows the contents, and the last reference frees the buffer. -/
theorem test_nextEvent_frees_the_buffer :
    answer? (after (.nextEvent .b []) reported) .b =
        some ⟨.ok,
          [0x04#8, 0x03#8, 0x00#8, 0x11#8, 0x00#8, 0x02#8, 0x00#8, 0x01#8, 0x02#8]⟩ ∧
      (after (.nextEvent .b []) reported).buffers = List.replicate 16 none := by decide

/-- R3: address 126 is the highest. -/
theorem test_enroll_126 :
    (after (.enroll .a [0x7E#8, 0x00#8]) base).directory = [StationEntry.enrolled 126 false] := by
  decide

/-- R3: address 127 is no station. -/
theorem test_enroll_refuses_127 :
    answer? (after (.enroll .a [0x7F#8, 0x00#8]) base) .a = some ⟨.badArgument, []⟩ := by decide

/-- R6: the subscriber reads REMOVED. -/
theorem test_dismiss_tells_the_subscriber :
    ((after (.dismiss .a [0x11#8]) enrolled).queues.get .b).notices =
      [.stationState 17 .online .removed 0] := by decide

/-- R5: a claimed station is in use. -/
theorem test_dismiss_refuses_a_claimed_station :
    answer? (after (.dismiss .a [0x11#8]) claimed) .a = some ⟨.inUse, []⟩ := by decide

/-- R4: no ends polling. -/
theorem test_setStation_no :
    (after (.setStation .a [0x11#8, 0x00#8]) enrolled).directory =
      [{ station17 with pollEnabled := false }] := by decide

/-- Log entry 15: the wrong length is refused before the unknown station. -/
theorem test_setStation_tests_the_length_first :
    answer? (after (.setStation .a [0x12#8]) enrolled) .a = some ⟨.badArgument, []⟩ := by decide

/-- R7: port A's record stands before port B's. -/
theorem test_subscribe_in_port_order :
    (after (.subscribe .a [0x11#8]) enrolled).directory =
      [{ station17 with subscribers := [⟨.a, false⟩, ⟨.b, false⟩] }] := by decide

/-- R8. -/
theorem test_unsubscribe :
    (after (.unsubscribe .b [0x11#8]) enrolled).directory =
      [{ station17 with subscribers := [] }] := by decide

/-- R19: the eight fixed items, then the one subscriber, then five counters. -/
theorem test_stationStatus :
    answer? (after (.stationStatus .a [0x11#8]) enrolled) .a =
      some ⟨.ok,
        [0x11#8, 0x01#8, 0x00#8, 0x01#8, 0x00#8, 0x00#8, 0x01#8, 0x01#8, 0x01#8, 0x00#8] ++
          List.replicate 10 0x00#8⟩ := by decide

/-- R26: the second waiter is answered its position. -/
theorem test_claim_queues_behind_the_holder :
    let s := { claimed with
      claims := [{ target := 17, holder := .a, remaining := 5, waiters := [] }] }
    answer? (after (.claim .b [0x11#8, 0x00#8, 0x07#8, 0x01#8]) s) .b =
        some ⟨.queued, [0x01#8]⟩ ∧
      (after (.claim .b [0x11#8, 0x00#8, 0x07#8, 0x01#8]) s).claims =
        [{ target := 17, holder := .a, remaining := 5, waiters := [⟨.b, 7⟩] }] := by decide

/-- R29: 256 ms. -/
theorem test_renew :
    ((after (.renew .a [0x11#8, 0x01#8, 0x00#8]) claimed).claims.map ClaimRecord.remaining) =
      [256] := by decide

/-- R23: a RENEW in a tick that has begun is left out of it. -/
theorem test_renew_in_a_tick :
    let s := { claimed with ticked := ⟨[40], []⟩ }
    (after (.renew .a [0x11#8, 0x00#8, 0x01#8]) s).ticked = ⟨[17, 40], []⟩ ∧
      (after (.renew .a [0x11#8, 0x00#8, 0x02#8]) claimed).ticked = ⟨[], []⟩ := by decide

/-- R30, R33: port B is granted the claim for the time it asked for; one of its units stays. -/
theorem test_release_hands_over :
    (after (.release .a [0x11#8]) claimed).claims =
        [{ target := 17, holder := .b, remaining := 7, waiters := [] }] ∧
      (after (.release .a [0x11#8]) claimed).queues =
        ⟨.reset, { notices := [.claimGranted 17 7], reserved := 1, missed := 0, attn := true },
          .reset, .reset⟩ := by decide

/-- R31 for a target without a record. -/
theorem test_claimStatus_without_a_record :
    answer? (after (.claimStatus .b [0x00#8]) claimed) .b =
      some ⟨.ok, [0xFF#8, 0x00#8, 0x00#8, 0x00#8]⟩ := by decide

/-- R48 on a stopped line: slot 1 is the lowest free one, and an urgent request leads the list. -/
theorem test_submit_urgent :
    let s := { waiting with scheduler := Scheduler.reset }
    let body := [0x0A#8, 0x02#8, 0x11#8, 0x01#8, 0xFF#8, 0x20#8]
    answer? (after (.submit .a body) s) .a = some ⟨.ok, [0x01#8]⟩ ∧
      (after (.submit .a body) s).lists.get .a = [1, 0] := by decide

/-- R53: the PENDING request ends CANCELLED with attempts made 0. -/
theorem test_cancel_pending :
    ((after (.cancel .a [0x09#8]) waiting).queues.get .a).notices.map Notice.kindCode =
        [0x01#8] ∧
      (after (.cancel .a [0x09#8]) waiting).lists.get .a = [] := by decide

/-- R61, R66: the waiting SEND goes to the line, its frame being sent. -/
theorem test_lineStart_begins_the_request :
    let s := { waiting with scheduler := Scheduler.reset }
    (after (.lineStart .a []) s).engine.exchange = some frame9 ∧
      (after (.lineStart .a []) s).scheduler.busy = .request 0 := by decide

/-- R107: the character being received is discarded when the frame is taken, and held as cut. -/
theorem test_lineStart_cuts_a_character :
    let s := { waiting with
      scheduler := Scheduler.reset, engine := { Engine.reset with receiving := some false } }
    (after (.lineStart .a []) s).engine.receiving = none ∧
      (after (.lineStart .a []) s).engine.cutAcross = true := by decide

/-- R62: a line with a transaction in progress drains. -/
theorem test_lineHalt_drains :
    (after (.lineHalt .a []) sending).scheduler.line = .draining := by decide

/-- R117: a frame cut while it is being sent is counted, and the engine is in GAP. -/
theorem test_lineCut_counts_the_cut :
    (after (.lineCut .a []) sending).engine.counters.cuts = 1 ∧
      (after (.lineCut .a []) sending).engine.phase = .gap ∧
      (after (.lineCut .a []) sending).slots = List.replicate 32 .free := by decide

/-- R75: ONCE with its requester. -/
theorem test_setPoll_once :
    (after (.setPoll .b [0x01#8]) enrolled).scheduler =
      { Scheduler.reset with mode := .once, requester := some .b } := by decide

/-- R77, R168 after device reset: the pointer is D, the defaults of Table 6-1, nothing staged. -/
theorem test_lineStatus_after_reset :
    (answer? (after (.lineStatus .a []) base) .a).map (fun r => r.body.drop 6) =
      some
        ([0x03#8] ++ List.replicate 14 0x00#8 ++
          [0x04#8, 0x04#8, 0x01#8, 0x4A#8, 0x16#8, 0x21#8, 0x02#8, 0x04#8, 0x04#8] ++
          List.replicate 10 0x00#8) := by decide

/-- R119: outside IDLE the set is staged. -/
theorem test_setLine_stages :
    let body := [0x07#8, 0x01#8, 0x00#8, 0x0B#8, 0x0B#8, 0x0B#8, 0x00#8, 0x02#8, 0x08#8]
    answer? (after (.setLine .a body) sending) .a = some ⟨.staged, []⟩ ∧
      (after (.setLine .a body) sending).engine.active = .defaults := by decide

/-- R154. -/
theorem test_badPacket :
    answer? (after (.badPacket .a [0x04#8, 0x00#8, 0xFD#8]) base) .a = some ⟨.badPacket, []⟩ := by
  decide

/-- R155: refused on a detached port too. -/
theorem test_badCommand_on_a_detached_port :
    answer? (after (.badCommand .c 0xFF#8 []) base) .c = some ⟨.badCommand, []⟩ := by decide

/-- R157: one fragment, and the window closes. -/
theorem test_fragment :
    ((after (.fragment .a [0x04#8]) base).records.get .a).fragments = 1 ∧
      (after (.fragment .a [0x04#8]) base).windows.get .a = .closed := by decide

/-- R23, and log entry 3: a record that its row CLAIM_EXPIRY took ahead is left out. -/
theorem test_tick :
    (after .timebaseTick claimed).claims =
        [{ target := 17, holder := .a, remaining := 4, waiters := [⟨.b, 7⟩] }] ∧
      (after .timebaseTick { claimed with ticked := ⟨[17], []⟩ }).claims = claimed.claims := by
  decide

/-- R23, R32, R162: at 0 the record expires in the tick, and the first waiter starts with its full
time; a session lapses in the tick. -/
theorem test_tick_expires :
    let s := { claimed with
      claims := [{ target := 17, holder := .a, remaining := 1, waiters := [⟨.b, 7⟩] }] }
    let s' := { base with
      records := base.records.set .a { attached with lapseTime := 50, timer := some 1 } }
    (after .timebaseTick s).claims =
        [{ target := 17, holder := .b, remaining := 7, waiters := [] }] ∧
      ((after .timebaseTick s).queues.get .a).notices = [.claimExpired 17] ∧
      ((after .timebaseTick s').records.get .a).cause = .lapse := by decide

/-- R32: the holder reads CLAIM_EXPIRED and the first waiter CLAIM_GRANTED. -/
theorem test_claimExpiry :
    let s := { claimed with
      claims := [{ target := 17, holder := .a, remaining := 1, waiters := [⟨.b, 7⟩] }] }
    (after (.claimExpiry 17) s).queues =
      ⟨{ notices := [.claimExpired 17], reserved := 0, missed := 0, attn := true },
        { notices := [.claimGranted 17 7], reserved := 1, missed := 0, attn := true }, .reset,
        .reset⟩ := by decide

/-- R162: the session ends with cause LAPSE. -/
theorem test_lapse :
    let s := { base with
      records := base.records.set .a { attached with lapseTime := 50, timer := some 1 } }
    (after (.lapse .a) s).records.get .a =
      { attached with session := .detached, lapseTime := 50, cause := .lapse } := by decide

/-- R23, R37 and Figure 9-2: port A's claim passes to port B with its whole time, which the row
TIMEBASE_TICK that ends the tick leaves out. -/
theorem test_lapse_hands_over_for_the_next_tick :
    let s := { claimed with
      records := base.records.set .a { attached with lapseTime := 50, timer := some 1 } }
    (after (.lapse .a) s).claims =
        [{ target := 17, holder := .b, remaining := 7, waiters := [] }] ∧
      (after (.lapse .a) s).ticked = ⟨[17], [.a]⟩ := by decide

/-- R166: the blocks are in their reset state, and open windows are not examined. -/
theorem test_deviceReset :
    after .deviceReset sending =
      { State.reset with
        resetLow := true, windows := ⟨.ignored, .ignored, .ignored, .ignored⟩ } := by decide

theorem test_deviceResetEnds :
    after .deviceResetEnds { State.reset with resetLow := true } = State.reset := by decide

/-- R107: the frame is counted and DE is deasserted. -/
theorem test_lastStopBitEnd :
    (after .lastStopBitEnd sending).engine =
      { sending.engine with
        phase := .turnaround, de := false, interval := 4
        counters := { LineCounters.reset with framesSent := 1 } } := by decide

/-- R108: the reply window of 330 bit times opens. -/
theorem test_turnaroundEnd :
    let s := exchanging .turnaround false none []
    (after .turnaroundEnd s).engine =
      { s.engine with phase := .listening, windowOpen := true, interval := 330 } := by decide

/-- R109, R90, R95: SILENT is a failed attempt with fault NO_REPLY, and the retry budget allows one
more. -/
theorem test_replyWindowEnd_fails_the_attempt :
    let s := exchanging .listening true none []
    (after .replyWindowEnd s).transaction.map Transaction.phase = some .awaitRetry ∧
      (after .replyWindowEnd s).slots.head? =
        some (.active .a { send9 with attempts := 1, lastFault := some .noReply }) ∧
      (after .replyWindowEnd s).directory =
        [{ station17 with state := .suspect, miss := 1, totalMisses := 1 }] := by decide

/-- R110: a head of another station is a stray. -/
theorem test_listening_counts_a_stray :
    let s := exchanging .listening true (some true) []
    (after (.characterInListening (.clean 0x92#8 true)) s).engine =
      { s.engine with
        receiving := none, strays := true
        counters := { LineCounters.reset with strayHeads := 1 } } := by decide

set_option maxRecDepth 4000 in
/-- R86, R111, R114: the ACK of the SEND with S 0 completes the request OK. The check character is the
CRC-8 of 0x91, 0x08, 0x00, worked out from R171 outside the model. -/
theorem test_receiving_the_ack :
    let character := fun (x : Byte) =>
      ({ data := x, mark := false, framing := false, noise := false } : Character)
    let s := exchanging .receiving true (some true)
      [head17, character 0x08#8, character 0x00#8]
    (after (.characterInReceiving (.clean 0x6A#8 false)) s).slots = List.replicate 32 .free ∧
      (after (.characterInReceiving (.clean 0x6A#8 false)) s).directory =
        [{ station17 with exchangesOk := 1, sendBit := true }] := by decide

/-- R116, R106: counted in IDLE, and not while RESET_n is low. -/
theorem test_unsolicitedCharacter :
    (after (.unsolicitedCharacter (.clean 0x00#8 false)) base).engine.counters.unsolicited = 1 ∧
      (after (.unsolicitedCharacter (.clean 0x00#8 false))
        { base with resetLow := true }).engine.counters.unsolicited = 0 := by decide

/-- R112: a frame cut short is TRUNCATED. -/
theorem test_characterGapLimit :
    let s := exchanging .receiving true none [head17]
    (after .characterGapLimit s).engine.counters.repliesBad = 1 ∧
      (after .characterGapLimit s).slots.head? =
        some (.active .a { send9 with attempts := 1, lastFault := some .truncated }) := by decide

/-- R96, R82: the second attempt begins with the main frame. -/
theorem test_gapEnd_begins_the_next_attempt :
    (after .interFrameGapEnd retrying).slots.head? =
        some (.active .a { send9 with attempts := 2 }) ∧
      (after .interFrameGapEnd retrying).engine.exchange = some frame9 := by decide

/-- R108: a character that the turnaround cut across is lost, a head too. -/
theorem test_turnaround_cuts_a_character :
    let s := exchanging .listening true none []
    let cut := { s with engine := { s.engine with cutAcross := true } }
    (after (.characterInListening (.clean 0x91#8 true)) cut).engine = s.engine ∧
      (after (.characterInListening (.clean 0x91#8 true)) s).engine.phase = .receiving := by decide

/-- R109: the character in progress began within the window. R108: in TURNAROUND it is cut across. -/
theorem test_acceptedStartBit :
    (after (.acceptedStartBit (.clean false))
        (exchanging .listening true none [])).engine.receiving = some true ∧
      (after (.acceptedStartBit (.clean false))
        (exchanging .turnaround false none [])).engine.cutAcross = true := by decide

/-- R152, R166: a window that opens while RESET_n is low is not examined. -/
theorem test_selectFalls :
    (after (.selectFalls .a) State.reset).windows.get .a = .receiving ∧
      (after (.selectFalls .a) { State.reset with resetLow := true }).windows.get .a =
        .ignored := by decide

/-- R157: a window that closes with no byte counts nothing. -/
theorem test_selectRises :
    after (.selectRises .a) base =
      { base with windows := ⟨.closed, .receiving, .receiving, .receiving⟩ } := by decide

/-! ### Stations -/

set_option maxRecDepth 4000 in
/-- R170, R171, R173: the ACK of station 9 with S 0 is 0x89, 0x08, 0x00, 0x99, the bytes of the
manual's worked CRC. -/
theorem test_station_acknowledges :
    let st := FieldStation.start 9 []
    (st.takeSend ⟨none, none, []⟩ false [0x55#8]).reply.map
        (fun r => (st.replyCharacters r).map Character.data) =
      some [0x89#8, 0x08#8, 0x00#8, 0x99#8] := by decide

/-- R172: the SEND to station 17 is discarded by another station, and after idle time. -/
theorem test_station_discards :
    (FieldStation.start 18 []).takes true frame9.characters = none ∧
      (FieldStation.start 17 []).takes false frame9.characters = none := by decide

/-! ### Witnesses: each statement's hypotheses are met together -/

theorem witness_StepTakesFrontCommand :
    ({ base with pending := [.timebaseTick, .lapse .a] } : State).pending =
      .timebaseTick :: [.lapse .a] := by decide

/-- The bytes of the longest packet but its last. -/
theorem witness_SelectFramesTheExchange :
    State.reset.windows.get .a = .closed ∧ base.Receives .a ∧
      0x01#8 :: 0x28#8 :: List.replicate 40 0x00#8 ≠ [] ∧
      packetComplete (0x01#8 :: 0x28#8 :: List.replicate 40 0x00#8) = false := by decide

theorem witness_RefusedPacketsHaveNoEffect :
    (base.Receives .a ∧ 40 < (0x29#8).toNat) ∧
      (base.Receives .a ∧ (List.replicate 40 0x00#8).length ≤ 40 ∧
        (0x01#8 :: byteOf (List.replicate 40 0x00#8).length ::
          (List.replicate 40 0x00#8 ++ [0x00#8])).foldl (· + ·) 0#8 ≠ 0#8) ∧
      (base.Receives .c ∧ isCommandCode 0x46#8 = false) ∧
      ((Instr.claim .a []).packetParts = some (.a, 0x20#8, []) ∧
        State.reset.windows.get .a ≠ .receiving) := by decide

theorem witness_DetachedPortsAreRefused :
    (Instr.submit .c (List.replicate 40 0x00#8)).wellFormed = true ∧
      (Instr.submit .c (List.replicate 40 0x00#8)).packetParts =
        some (.c, 0x30#8, List.replicate 40 0x00#8) ∧
      isCommandCode 0x30#8 = true ∧ 0x30#8 ≠ 0x01#8 ∧ 0x30#8 ≠ 0x03#8 ∧ base.Receives .c ∧
      base.isAttached .c = false := by decide

theorem witness_AttachOpensASession :
    (base.Receives .c ∧ (base.records.get .c).number ≤ 255) ∧
      (base.Receives .c ∧ ([] : List Byte).length ≠ 2) ∧
      (base.AccountsOk ∧ base.isAttached .c = false) := by decide

/-- A tick that brings nothing to 0, one that brings a claim there, and one a lapse timer. -/
theorem witness_TickCountsDown :
    (∃ counted, counted = claimed.countDown ∧ claimed.resetLow = false ∧
      (∀ c ∈ counted.claims, c.remaining ≠ 0) ∧
      ∀ p, counted.isAttached p = true → (counted.records.get p).timer ≠ some 0) ∧
    (∃ s counted c, counted = State.countDown s ∧ s.resetLow = false ∧
      counted.claims.filter (fun x => decide (x.remaining = 0)) = [c] ∧
      counted.claim? c.target = some c ∧ counted.isAttached c.holder = true ∧
      ∀ p, counted.isAttached p = true → (counted.records.get p).timer ≠ some 0) ∧
    ∃ s counted, counted = State.countDown s ∧ s.resetLow = false ∧
      (∀ c ∈ counted.claims, c.remaining ≠ 0) ∧ counted.isAttached .a = true ∧
      (counted.records.get .a).timer = some 0 ∧
      ∀ q, q ≠ .a → counted.isAttached q = true → (counted.records.get q).timer ≠ some 0 := by
  refine ⟨⟨_, rfl, by decide, by decide, fun p => by cases p <;> decide⟩,
    ⟨{ claimed with
        claims := [{ target := 17, holder := .a, remaining := 1, waiters := [⟨.b, 7⟩] }] },
      _, { target := 17, holder := .a, remaining := 0, waiters := [⟨.b, 7⟩] }, rfl, by decide,
      by decide, by decide, by decide, fun p => by cases p <;> decide⟩,
    ⟨{ base with
        records := base.records.set .a { attached with lapseTime := 50, timer := some 1 } },
      _, rfl, by decide, by decide, by decide, by decide, fun p => by cases p <;> decide⟩⟩

/-- A claim and a timer in their last millisecond. -/
theorem witness_TickCountsDown_over :
    let s := { claimed with
      claims := [{ target := 17, holder := .a, remaining := 1, waiters := [⟨.b, 7⟩] }]
      records := base.records.set .b { attached with lapseTime := 50, timer := some 1 } }
    s.resetLow = false ∧ s.ClaimsOk ∧ s.RecordsOk := by decide

theorem witness_SessionsEndInTeardown :
    base.Ready .a ∧ [0x00#8] ≠ [] ∧
      (let s := { base with
        records := base.records.set .a { attached with lapseTime := 50, timer := some 1 } }
      s.isAttached .a = true ∧ (s.records.get .a).timer = some 1 ∧ .a ∉ s.ticked.ports) := by
  decide

/-- A teardown that drops a report, and one on a line that is not free that hands a claim on, with a
tick begun and without one. -/
theorem witness_TeardownDropsEverything :
    (reported.ClaimsOk ∧ 1 = (reported.queues.get .b).notices.countP (Notice.refersTo 0) ∧
        (reported.buffers.getD 0 none).isSome = true) ∧
      (let s := { sending with claims := claimed.claims }
      s.ClaimsOk ∧ s.lineFree = false ∧ s.OwnersAttached ∧ Port.b ≠ .a ∧ s.ticked = ⟨[], []⟩ ∧
        ({ s with ticked := ⟨[40], []⟩ } : State).ClaimsOk ∧
        ({ s with ticked := ⟨[40], []⟩ } : State).ticked ≠ ⟨[], []⟩) := by decide

theorem witness_PortStatusReadsOnly : base.Receives .c ∧ [0x00#8] ≠ [] := by decide

theorem witness_NextEventTakesTheOldest :
    (reported.Ready .b ∧
        (reported.queues.get .b).notices = .report ⟨17, 0, 2, false, false⟩ :: []) ∧
      (base.Ready .a ∧ (base.queues.get .a).notices = []) ∧ (base.Ready .a ∧ [0x00#8] ≠ []) := by
  decide

/-- Addresses 0 and 127 are outside the range, 1 and 126 within it and not enrolled; and bodies of no
byte and of two. -/
theorem witness_DirectoryChecksTheAddress :
    enrolled.Ready .a ∧
      (∀ x ∈ [0x00#8, 0x7F#8], x.toNat = 0 ∨ 126 < x.toNat) ∧
      (∀ x ∈ [0x01#8, 0x7E#8], 1 ≤ x.toNat ∧ x.toNat ≤ 126 ∧
        ∀ e ∈ enrolled.directory, e.address ≠ x.toNat) ∧
      Instr.setStation .a [0x7E#8, 0x00#8] ∈
        [Instr.dismiss .a [0x7E#8], .setStation .a [0x7E#8, 0x00#8], .subscribe .a [0x7E#8],
          .unsubscribe .a [0x7E#8], .stationStatus .a [0x7E#8]] ∧
      ∀ body ∈ [[], [0x11#8, 0x00#8]], body.length ≠ 1 ∧
        Instr.dismiss .a body ∈
          [Instr.dismiss .a body, .subscribe .a body, .unsubscribe .a body,
            .stationStatus .a body] := by decide

theorem witness_EnrollCreatesAnEntry : enrolled.Ready .a ∧ [0x01#8].length ≠ 2 := by decide

/-- A station that is enrolled, and a body of one byte. -/
theorem witness_SetStationSetsPolling :
    [0x12#8].length ≠ 2 ∧ enrolled.Ready .a ∧ 1 ≤ (0x11#8).toNat ∧ (0x11#8).toNat ≤ 126 ∧
      enrolled.station? (0x11#8).toNat = some station17 := by decide

theorem witness_DismissRemovesAnEntry :
    enrolled.Ready .b ∧ 1 ≤ (0x11#8).toNat ∧ (0x11#8).toNat ≤ 126 ∧
      enrolled.station? (0x11#8).toNat = some station17 := by decide

theorem witness_SubscriptionsFollowTheirCommands :
    enrolled.Ready .a ∧ enrolled.DirectoryOk ∧
      enrolled.station? (0x11#8).toNat = some station17 := by decide

theorem witness_StationStatusReadsOnly :
    claimed.Ready .b ∧ 1 ≤ (0x11#8).toNat ∧ (0x11#8).toNat ≤ 126 ∧
      claimed.station? (0x11#8).toNat = some station17 := by decide

theorem witness_OutcomeReportsAtTheEntry : enrolled.station? 17 = some station17 := by decide

theorem witness_ClaimIsDecided : claimed.Ready .b ∧ [0x11#8].length ≠ 4 := by decide

theorem witness_RenewSetsTheTime : claimed.Ready .a ∧ [0x11#8].length ≠ 3 := by decide

theorem witness_ReleaseGivesUpTheClaim :
    claimed.Ready .a ∧ [0x11#8, 0x00#8].length ≠ 1 := by decide

theorem witness_ClaimStatusReadsOnly :
    claimed.Ready .b ∧ ([] : List Byte).length ≠ 1 := by decide

/-- With a waiter, without one, and at remaining time 1. -/
theorem witness_HoldersLeaveTheirClaims :
    (claimed.claim? 17 =
        some { target := 17, holder := .a, remaining := 5, waiters := [⟨.b, 7⟩] } ∧
      claimed.isAttached .b = true) ∧
      (let c : ClaimRecord := { target := 17, holder := .a, remaining := 1, waiters := [] }
      let s := { claimed with claims := [c] }
      s.claim? 17 = some c ∧ c.waiters = [] ∧ c.remaining = 1 ∧ 17 ∉ s.ticked.claims ∧
        s.isAttached c.holder = true) := by decide

theorem witness_SubmitArgumentsAreTested :
    submitArgs [0x09#8, 0x01#8, 0x11#8, 0x00#8, 0x01#8, 0xFF#8, 0x55#8] = some send9 ∧
      ([0x09#8, 0x01#8, 0x11#8, 0x00#8, 0x01#8] : List Byte).length < 6 := by decide

theorem witness_SubmitFillsASlot : base.Receives .c ∧ waiting.Receives .a := by decide

theorem witness_CancelEndsOrMarks :
    waiting.Ready .a ∧ [0x09#8, 0x00#8].length ≠ 1 ∧ waiting.tagged? .a 9 = some 0 := by decide

theorem witness_RequestsEndInOneCompletion :
    (waiting.slots.getD 0 .free = .pending .a send9 ∧ waiting.isAttached .a = true) ∧
      (sending.slots.getD 0 .free = .active .a { send9 with attempts := 1 } ∧
        sending.isAttached .a = true) ∧
      ({ sending with slots := .orphaned send9 :: List.replicate 31 .free } : State).slots.getD 0
        .free = .orphaned send9 := by decide

theorem witness_LineClaimBarsLineControl :
    let c : ClaimRecord := { target := 0, holder := .b, remaining := 5, waiters := [] }
    let s := { enrolled with claims := [c] }
    s.Ready .a ∧ s.claim? 0 = some c ∧ c.holder ≠ .a ∧
      Instr.setPoll .a [] ∈
        [Instr.lineStart .a [], .lineHalt .a [], .lineCut .a [], .setPoll .a [],
          .setLine .a []] := by decide

/-- The line claim held by the caller itself, and reading while another port holds it. -/
theorem witness_LineClaimBarsLineControl_passes :
    let c : ClaimRecord := { target := 0, holder := .a, remaining := 5, waiters := [] }
    let s := { enrolled with claims := [c] }
    (s.Ready .a ∧ s.claim? 0 = some c ∧ s.Controls .a ∧
        Instr.lineStart .a [] ∈
          [Instr.lineStart .a [], .lineHalt .a [], .lineCut .a [], .setPoll .a [],
            .setLine .a []]) ∧
      (s.Ready .b ∧ ¬ s.Controls .b ∧
        Instr.lineStatus .b [] ∈ [Instr.lineStatus .b [], .claimStatus .b []]) := by decide

/-- The hypotheses of LineStartRunsTheLine, LineCutEndsTheExchange and, with other lengths, of
SetPollSetsTheSweep, LineStatusReadsOnly and SetLineAppliesOrStages. -/
theorem witness_LineStartRunsTheLine :
    waiting.Ready .a ∧ waiting.Controls .a ∧ [0x00#8] ≠ [] := by decide

theorem witness_LineHaltStopsTheLine :
    (sending.Ready .a ∧ sending.Controls .a ∧ [0x00#8] ≠ []) ∧
      (let s := { base with engine := { Engine.reset with phase := .gap } }
      s.engine.phase = .gap ∧ s.transaction = none ∧ s.scheduler.line = .stopped) := by decide

theorem witness_LineCutEndsTheExchange :
    sending.Ready .b ∧ sending.Controls .b ∧ [0x00#8] ≠ [] := by decide

theorem witness_SetPollSetsTheSweep :
    enrolled.Ready .a ∧ enrolled.Controls .a ∧ ([] : List Byte).length ≠ 1 := by decide

theorem witness_LineStatusReadsOnly : sending.Ready .b ∧ [0x00#8] ≠ [] := by decide

theorem witness_SetLineAppliesOrStages :
    sending.Ready .a ∧ sending.Controls .a ∧ ([] : List Byte).length ≠ 9 := by decide

/-- A sweep in each mode, of a directory with a poll-enabled station. -/
theorem witness_SelectionChoosesOrFindsNothing :
    waiting.lineFree = true ∧ waiting.scheduler.mode = .off ∧
      ∀ mode ∈ [PollMode.once, .continuous],
        let s := { enrolled with scheduler := { Scheduler.reset with mode := mode } }
        s.DirectoryOk ∧ s.sweepFinds? = some 17 := by decide

/-- A ONCE sweep that has passed its last station. -/
theorem witness_SelectionFollowsItsOrder_sweep_ends :
    let s := { waiting with
      scheduler :=
        { waiting.scheduler with mode := .once, requester := some .b, cursor := 17, visits := 1 } }
    s.lineFree = true ∧ s.scheduler.mode = .once ∧ s.sweepFinds? = none ∧
      s.scheduler.requester = some .b := by decide

/-- An urgent candidate of port A, the first after D. -/
theorem witness_SelectionFollowsItsOrder_urgent :
    let r := { send9 with urgent := true }
    let s := { waiting with slots := .pending .a r :: List.replicate 31 .free }
    s.lineFree = true ∧ (s.scheduler.mode = .once → s.sweepFinds? ≠ none) ∧
      (s.sweepFinds? = none ∨ s.scheduler.credit < s.engine.active.pollShare) ∧
      s.scheduler.pointer.rotation = [] ++ .a :: [.b, .c, .d] ∧ s.candidate? .a = some 0 ∧
      s.slots.getD 0 .free = .pending .a r ∧ r.urgent = true ∧
      ∀ q ∈ ([] : List Port), ∀ j, s.candidate? q = some j → s.isUrgent j = false := by
  refine ⟨by decide, by decide, by decide, by decide, by decide, by decide, rfl, ?_⟩
  intro q hq
  cases hq

/-- No urgent candidate, and port A's normal one. -/
theorem witness_SelectionFollowsItsOrder_normal :
    waiting.lineFree = true ∧ (waiting.scheduler.mode = .once → waiting.sweepFinds? ≠ none) ∧
      (waiting.sweepFinds? = none ∨
        waiting.scheduler.credit < waiting.engine.active.pollShare) ∧
      waiting.scheduler.pointer.rotation = [] ++ .a :: [.b, .c, .d] ∧
      waiting.candidate? .a = some 0 ∧ waiting.slots.getD 0 .free = .pending .a send9 ∧
      (∀ q j, waiting.candidate? q = some j → waiting.isUrgent j = false) ∧
      ∀ q ∈ ([] : List Port), waiting.candidate? q = none := by
  refine ⟨by decide, by decide, by decide, by decide, by decide, by decide, ?_, ?_⟩
  · intro q j h
    cases q
    · have h0 : waiting.candidate? .a = some 0 := by decide
      rw [h0] at h
      cases h
      decide
    · exact absurd h (by simp [show waiting.candidate? .b = none by decide])
    · exact absurd h (by simp [show waiting.candidate? .c = none by decide])
    · exact absurd h (by simp [show waiting.candidate? .d = none by decide])
  · intro q hq
    cases hq

/-- A visit that the credit calls for, at credit 4 with share 4, and an idle visit at credit 3. -/
theorem witness_SelectionFollowsItsOrder_visit :
    let d : Scheduler := { Scheduler.reset with line := .running, mode := .continuous }
    (let s := { enrolled with scheduler := { d with credit := 4 } };
      s.lineFree = true ∧ (s.scheduler.mode = .once → s.sweepFinds? ≠ none) ∧
        s.sweepFinds? = some 17 ∧ s.engine.active.pollShare ≤ s.scheduler.credit) ∧
      (let s := { enrolled with scheduler := { d with credit := 3 } };
        s.lineFree = true ∧ s.sweepFinds? = some 17 ∧
        s.scheduler.credit < s.engine.active.pollShare ∧
        ∀ q ∈ Port.all, s.candidate? q = none) := by decide

/-- A SEND to a synchronised station, and a visit to it. -/
theorem witness_TransactionsBeginTheirFrames :
    0 < waiting.slots.length ∧ waiting.station? send9.station = some station17 ∧
      send9.kind = .send ∧ station17.synchronised = true ∧
      frame9 =
        { address := send9.station, kind := .send, sBit := station17.sendBit
          payload := send9.payload } := by decide

/-- A FETCH to a station that is not synchronised, a PROBE and a BROADCAST. -/
theorem witness_TransactionsBeginTheirFrames_others :
    let e := { station17 with synchronised := false }
    let s := { base with directory := [e] }
    0 < s.slots.length ∧ s.station? 17 = some e ∧
      ({ send9 with kind := .fetch } : Request).kind = .fetch ∧ e.synchronised = false ∧
      ({ send9 with kind := .probe } : Request).kind = .probe ∧
      ({ send9 with kind := .broadcast } : Request).kind = .broadcast := by decide

theorem witness_ClaimsHoldBackFirstAttempts :
    let c : ClaimRecord := { target := 17, holder := .a, remaining := 5, waiters := [] }
    let s := { waiting with claims := [c] }
    s.slots.getD 0 .free = .pending .a send9 ∧
      s.select.slots.getD 0 .free = .active .a { send9 with attempts := 1 } ∧
      s.claim? (if send9.kind = RequestKind.broadcast then 0 else send9.station) = some c := by
  decide

/-- A full store, and a store whose lowest free buffer is the last. -/
theorem witness_ReportsAreJudgedAtTheStore :
    enrolled.DirectoryOk ∧ enrolled.station? 17 = some station17 ∧
      (true ≠ station17.reportBit ∧ false = station17.reportBit) ∧
      station17.subscribers ≠ [] ∧
      (let b : ReportBuffer := { station := 17, payload := [0x01#8], noise := false, refs := 1 }
      let full := { enrolled with buffers := List.replicate 16 (some b) }
      let last := { enrolled with buffers := List.replicate 15 (some b) ++ [none] }
      (∀ j < full.buffers.length, full.buffers.getD j none ≠ none) ∧
        15 < last.buffers.length ∧ last.buffers.getD 15 none = none ∧
        ∀ j < 15, last.buffers.getD j none ≠ none) := by decide

/-- Case 2 of Table 7-2: an entry without subscribers. -/
theorem witness_ReportsAreJudgedAtTheStore_lost :
    let e := { station17 with subscribers := [] }
    let s := { base with directory := [e] }
    s.DirectoryOk ∧ s.station? 17 = some e ∧ false = e.reportBit ∧ e.subscribers = [] := by decide

theorem witness_LineTimersEndTheirPhases :
    (sending.engine.phase = .sending ∧ sending.engine.exchange = some frame9) ∧
      (exchanging .turnaround false none []).engine.phase = .turnaround ∧
      ((exchanging .listening true (some true) []).engine.windowOpen = true ∧
        (exchanging .listening true (some true) []).engine.phase = .listening ∧
        (exchanging .listening true (some true) []).engine.receiving ≠ none) ∧
      ((exchanging .listening true none []).engine.windowOpen = true ∧
        (exchanging .listening true none []).engine.phase = .listening ∧
        (exchanging .listening true none []).engine.receiving = none) ∧
      ((exchanging .receiving false none [head17]).engine.phase = .receiving ∧
        (exchanging .receiving false none [head17]).engine.receiving = none) := by decide

/-- A SEND, a PROBE, a FETCH and a POLL that a station answers. -/
theorem witness_ResultsAreJudged :
    MainKind.send ≠ .broadcast ∧
      ∀ kind ∈ [FrameKind.send, .probe, .fetch, .poll],
        ∃ f : Reply, f.kind = kind ∧
          (((FieldStation.start 9 []).takeFrame ⟨none, none, []⟩ f).reply).isSome = true := by
  refine ⟨by decide, fun kind hk => ⟨stationReply kind false 0 [], rfl, ?_⟩⟩
  revert kind
  decide

/-- No transaction; a visit; and a request that is ACTIVE, and one that is orphaned. -/
theorem witness_ExchangesEndInTheGap :
    let t : Transaction := { source := .request 0, station := 17, main := .send, phase := .mainFrame }
    let r := { send9 with attempts := 1 }
    base.transaction = none ∧ sending.transaction = some t ∧
      ({ t with source := .visit, main := .poll } : Transaction).source = .visit ∧
      t.source = .request 0 ∧ 0 < sending.slots.length ∧
      sending.slots.getD 0 .free = .active .a r ∧
      ({ sending with slots := .orphaned r :: List.replicate 31 .free } : State).slots.getD 0
        .free = .orphaned r := by decide

theorem witness_ListeningTakesHeadsAlone :
    let s := exchanging .listening true (some true) []
    s.engine.phase = .listening ∧ s.engine.assembly = [] ∧ s.engine.cutAcross = false ∧
      s.engine.exchange = some frame9 ∧
      (CharSamples.clean 0x91#8 true).character = some head17 := by decide

/-- The control character, then a frame of no payload at its check character, and one whose length
character is 33. -/
theorem witness_ReceivingAssemblesAFrame :
    let c : Character := { data := 0x00#8, mark := false, framing := false, noise := false }
    let s := exchanging .receiving true (some true) [head17]
    s.engine.phase = .receiving ∧ s.engine.cutAcross = false ∧
      (CharSamples.clean 0x00#8 false).character = some c ∧ (c.mark = false ∨ c.framing = true) ∧
      (s.engine.assembly ++ [c]).length < 3 ∧
      ([head17, c, c, c][2]?).map (fun x => x.data.toNat) = some 0 ∧
      [head17, c, c, c].length = 0 + 4 ∧
      ([head17, c, { c with data := 0x21#8 }][2]?).map (fun x => x.data.toNat) = some 33 := by
  decide

theorem witness_NewHeadAbandonsTheFrame :
    let s := exchanging .receiving false (some true) [head17]
    let s' := exchanging .receiving false (some false) [head17]
    s.engine.phase = .receiving ∧ s.engine.exchange = some frame9 ∧ s.engine.cutAcross = false ∧
      (CharSamples.clean 0x91#8 true).character = some head17 ∧ head17.mark = true ∧
      head17.framing = false ∧ s.engine.receiving.getD s.engine.windowOpen = true ∧
      s'.engine.receiving.getD s'.engine.windowOpen = false := by decide

theorem witness_GapEndResumesTheLine :
    (retrying.engine.phase = .gap ∧
      retrying.transaction =
        some { source := .request 0, station := 17, main := .send, phase := .awaitRetry } ∧
      retrying.slots.getD 0 .free = .active .a { send9 with attempts := 1 } ∧
      0 < retrying.slots.length ∧ retrying.station? 17 = some station17 ∧
      ({ send9 with attempts := 1 } : Request).cancelRequested = false) ∧
      ∃ idle, idle =
        { retrying with
          engine :=
            { retrying.engine with
              phase := .idle, interval := 0
              active := retrying.engine.staged.getD retrying.engine.active, staged := none } } :=
  ⟨by decide, _, rfl⟩

/-- After a join probe; and a retry whose request was cancelled, and one that was orphaned. -/
theorem witness_GapEndResumesTheLine_others :
    let t : Transaction := { source := .request 0, station := 17, main := .send, phase := .awaitMain }
    let r := { send9 with attempts := 1 }
    (let s := { retrying with transaction := some t };
      s.engine.phase = .gap ∧ s.transaction = some t ∧ t.phase = .awaitMain ∧
        s.station? t.station = some station17 ∧
        (s.slots.getD 0 .free).request? = some r ∧
        frame9 =
          { address := t.station, kind := .send, sBit := station17.sendBit
            payload := r.payload }) ∧
      (let r' := { r with cancelRequested := true }
      let s := { retrying with slots := .active .a r' :: List.replicate 31 .free }
      s.engine.phase = .gap ∧ s.slots.getD 0 .free = .active .a r' ∧ r'.cancelRequested = true) ∧
      (let s := { retrying with slots := .orphaned r :: List.replicate 31 .free }
      s.engine.phase = .gap ∧ s.slots.getD 0 .free = .orphaned r) := by decide

theorem witness_ReceiverSeeksAndCounts :
    (retrying.engine.phase = .gap ∨
        (retrying.engine.phase = .idle ∧ retrying.resetLow = false)) ∧
      (CharSamples.clean 0x91#8 true).character = some head17 ∧
      ({ CharSamples.clean 0x91#8 true with start := .clean true } : CharSamples).character =
        none ∧
      retrying.resetLow = false ∧ retrying.engine.receiving = none ∧
      retrying.engine.cutAcross = false ∧
      retrying.engine.phase ∈ [.idle, .listening, .receiving, .gap] ∧
      sending.resetLow = false ∧ sending.engine.phase ∈ [.sending, .turnaround] ∧
      (let s := { retrying with engine := { retrying.engine with cutAcross := true } };
        s.engine.cutAcross = true ∧ s.resetLow = false ∧ s.engine.phase = .gap) := by decide

theorem witness_HostPacketsReadBack :
    (Instr.submit .b (List.replicate 40 0xFF#8)).wellFormed = true ∧
      (Instr.submit .b (List.replicate 40 0xFF#8)).packetParts =
        some (.b, 0x30#8, List.replicate 40 0xFF#8) ∧
      (List.replicate 7 true).length < 8 := by decide

set_option maxRecDepth 4000 in
/-- A SEND, and a NAK with reason 7; a station that takes the SEND, and one that discards it. -/
theorem witness_LineFramesReadBack :
    (frame9.kind.allowsLength frame9.payload.length = true ∧ (0 = 0) ∧ 1 ≤ 1 ∧
        1 < frame9.characters.length) ∧
      (FrameKind.nak.allowsLength 0 = true ∧ FrameKind.nak = .nak ∧ 7 ≤ 7) ∧
      (let st := FieldStation.start 17 []
      1 ≤ st.address ∧ st.address ≤ 126 ∧ frame9.address ≤ 126 ∧
        0 < frame9.characters.length ∧ st.takes false frame9.characters = none ∧
        (st.takes true frame9.characters).isSome = true ∧
        frame9.characters.head?.map (fun c => c.data.toNat) = some st.address ∧
        (let f := { frame9 with address := 0 };
          (st.takes true f.characters).isSome = true ∧
            f.characters.head?.map (fun c => c.data.toNat) = some 0) ∧
        ∃ c ∈ [{ head17 with framing := true }], c.framing = true) ∧
      (retrying.engine.phase ≠ .sending ∧ sending.engine.phase = .sending ∧
        sending.engine.exchange = some frame9 ∧ 54 < frame9.lineBits.length ∧
        (frame9.characters[4]?).isSome = true ∧ 10 < 11) := by decide

/-- A sound state with a request on the line, a claim, a wait and a report in a queue, and the step
that ends its frame. -/
def busy : State :=
  { sending with
    claims := claimed.claims
    queues :=
      ⟨{ EventQueue.reset with reserved := 2 },
        { notices := [.report ⟨17, 0, 2, false, false⟩], reserved := 2, missed := 3, attn := true },
        .reset, .reset⟩
    buffers := reported.buffers
    pending := [.lastStopBitEnd] }

theorem witness_StepsKeepTheTables : busy.TablesOk ∧ ∃ t, step busy = .next t :=
  ⟨by decide, _, rfl⟩

theorem witness_StepsKeepTheEngine : busy.EngineOk ∧ ∃ t, step busy = .next t :=
  ⟨by decide, _, rfl⟩

theorem witness_StepsKeepTheAccounts : busy.AccountsOk ∧ ∃ t, step busy = .next t :=
  ⟨by decide, _, rfl⟩

theorem witness_StepsKeepTheReferences : busy.StoreOk ∧ ∃ t, step busy = .next t :=
  ⟨by decide, _, rfl⟩

theorem witness_StepsKeepSoundness : busy.Sound ∧ ∃ t, step busy = .next t := by
  refine ⟨⟨?_, ?_, ?_, ?_, ?_, ?_, ?_, ?_, ?_, ?_, ?_, ?_, ?_, ?_, ?_, ?_⟩, _, rfl⟩ <;> decide

/-- A SET_LINE with a poll share of 8 while the engine is IDLE. -/
theorem witness_ConfigurationChangesInIdleAlone :
    ∃ t, exec
        (.setLine .a
          [0x04#8, 0x04#8, 0x01#8, 0x4A#8, 0x16#8, 0x21#8, 0x02#8, 0x04#8, 0x08#8]) base =
        .next t ∧ t.engine.active ≠ base.engine.active :=
  ⟨_, rfl, by decide⟩

theorem witness_QueuesAreFirstInFirstOut :
    Instr.nextEvent .b [] ≠ .deviceReset ∧ ∃ t, exec (.nextEvent .b []) reported = .next t :=
  ⟨by decide, _, rfl⟩

theorem witness_PortsAreIndependent :
    ∃ t, exec (.attach .c [0x00#8, 0x00#8]) base = .next t ∧
      (t.records.get .c).session ≠ (base.records.get .c).session ∧
      t.windows.get .c ≠ base.windows.get .c :=
  ⟨_, rfl, by decide, by decide⟩

end Sys2Proof.Tests
end

