-- ==== Sys2Proof/Proofs/OutcomeReports.lean ====
section
/-! The outcome reports at an entry (R11 to R18), in the terms of the statements. -/

namespace Sys2Proof.Machine

/-! ### The entry after each report -/

/-- The send bit toggles exactly on the send-bit advance qualifier (R12, R15). -/
theorem StationEntry.validReply_eq (e : StationEntry) (noise advance : Bool) :
    e.validReply noise advance =
      { e with
        miss := 0, state := .online, exchangesOk := (e.exchangesOk + 1) % 65536
        noisyFrames := if noise then min 65535 (e.noisyFrames + 1) else e.noisyFrames
        sendBit := xor e.sendBit advance } := by
  cases advance with
  | false => simp [StationEntry.validReply, wrapInc, satInc]
  | true => simp [StationEntry.validReply, wrapInc, satInc]

/-- A valid reply without the advance, after which the entry is synchronised with both bits at 0
(R13). -/
theorem StationEntry.successfulProbe_eq (e : StationEntry) (noise : Bool) :
    e.successfulProbe noise =
      { e with
        miss := 0, state := .online, exchangesOk := (e.exchangesOk + 1) % 65536
        noisyFrames := if noise then min 65535 (e.noisyFrames + 1) else e.noisyFrames
        synchronised := true, sendBit := false, reportBit := false } := by
  simp only [StationEntry.successfulProbe, StationEntry.validReply_eq]

/-- A failed attempt counts the miss, then reaches the threshold or stays below it, where only
UNKNOWN and ONLINE move, to SUSPECT (R14). -/
theorem StationEntry.failedAttempt_eq (e : StationEntry) (threshold : Nat) :
    e.failedAttempt threshold =
      if threshold ≤ min 15 (e.miss + 1) then
        { e with
          miss := min 15 (e.miss + 1), totalMisses := min 65535 (e.totalMisses + 1)
          state := .offline, synchronised := false }
      else
        { e with
          miss := min 15 (e.miss + 1), totalMisses := min 65535 (e.totalMisses + 1)
          state := if e.state = .unknown ∨ e.state = .online then .suspect else e.state } := by
  unfold StationEntry.failedAttempt satInc
  by_cases reached : threshold ≤ min 15 (e.miss + 1)
  · simp only [if_pos reached]
  · by_cases moves : e.state = .unknown ∨ e.state = .online
    · simp only [if_neg reached, if_pos moves]
    · simp only [if_neg reached, if_neg moves]

/-! ### No report touches the key of the entry or its subscribers -/

@[simp] theorem StationEntry.failedAttempt_address (e : StationEntry) (threshold : Nat) :
    (e.failedAttempt threshold).address = e.address := by
  rw [StationEntry.failedAttempt_eq]
  split <;> rfl

@[simp] theorem StationEntry.failedAttempt_subscribers (e : StationEntry) (threshold : Nat) :
    (e.failedAttempt threshold).subscribers = e.subscribers := by
  rw [StationEntry.failedAttempt_eq]
  split <;> rfl

/-! ### The change of an entry in the directory -/

/-- A change of an entry that keeps its address and subscribers, in the terms of the statements: the
notice of the new entry is then the notice to the subscribers of the old one (R10, R18). -/
theorem State.changeStation_eq_entryBecomes {s : State} {a : Nat} {e : StationEntry}
    {f : StationEntry → StationEntry} (enrolled : s.station? a = some e)
    (address : (f e).address = e.address) (subscribers : (f e).subscribers = e.subscribers) :
    s.changeStation a f = s.entryBecomes e (f e) := by
  obtain ⟨absent, -⟩ | ⟨e', found, changed⟩ := s.changeStation_cases a f
  · simp [enrolled] at absent
  · obtain rfl : e = e' := Option.some.inj (enrolled.symm.trans found)
    unfold State.entryBecomes
    obtain ⟨kept, eq⟩ | ⟨moved, eq⟩ := changed
    · rw [eq, if_pos kept]
      rfl
    · rw [eq, if_neg moved, State.postStationState, address, subscribers]
      rfl

/-- Settles O21: each report is a change of the entry that keeps its address and subscribers, so it
is the entry's own equation placed in the directory. -/
theorem outcomeReportsAtTheEntry : Obligations.OutcomeReportsAtTheEntry := by
  intro s a e enrolled
  refine ⟨fun noise advance => ?validReply, fun noise => ?successfulProbe, ?failedAttempt⟩
  case validReply =>
    rw [← StationEntry.validReply_eq]
    exact State.changeStation_eq_entryBecomes enrolled rfl rfl
  case successfulProbe =>
    rw [← StationEntry.successfulProbe_eq]
    exact State.changeStation_eq_entryBecomes enrolled rfl rfl
  case failedAttempt =>
    rw [← StationEntry.failedAttempt_eq]
    exact State.changeStation_eq_entryBecomes enrolled (e.failedAttempt_address _)
      (e.failedAttempt_subscribers _)

end Sys2Proof.Machine
end

/-! The arguments of SUBMIT (R46): which bytes pass each test, and the request they make. -/

namespace Sys2Proof.Machine

theorem inRange_eq_true_iff (lo hi n : Nat) : inRange lo hi n = true ↔ lo ≤ n ∧ n ≤ hi := by
  simp [inRange]

/-! ### Each byte by itself -/

/-- A byte names a request kind exactly where it is 1 to 4 (Table 10-1). -/
theorem RequestKind.exists_code_eq_iff (v : Byte) :
    (∃ k : RequestKind, k.code = v) ↔ 1 ≤ v.toNat ∧ v.toNat ≤ 4 := by
  constructor
  · rintro ⟨k, rfl⟩
    cases k <;> decide
  · rintro ⟨low, high⟩
    obtain h | h | h | h : v.toNat = 1 ∨ v.toNat = 2 ∨ v.toNat = 3 ∨ v.toNat = 4 := by omega
    · exact ⟨.send, BitVec.eq_of_toNat_eq h.symm⟩
    · exact ⟨.fetch, BitVec.eq_of_toNat_eq h.symm⟩
    · exact ⟨.probe, BitVec.eq_of_toNat_eq h.symm⟩
    · exact ⟨.broadcast, BitVec.eq_of_toNat_eq h.symm⟩

/-- A flag byte that is read is 0 or 1, and 1 is the flag set (R167). -/
theorem ofFlag_eq_some_iff (v : Byte) (b : Bool) :
    ofFlag v = some b ↔ v.toNat ≤ 1 ∧ b = decide (v.toNat = 1) := by
  obtain ⟨big, h⟩ | ⟨zero, h⟩ | ⟨one, h⟩ := ofFlag_cases v
  · simp [h, big]
  · simp [h, zero, eq_comm]
  · simp [h, one, eq_comm]

/-- A retry-budget byte that is read is 255, which is absent, or 0 to 7. -/
theorem retryArg_eq_some_iff (v : Byte) (budget : Option Nat) :
    retryArg v = some budget ↔
      (v.toNat = 255 ∨ v.toNat ≤ 7) ∧
        budget = if v.toNat = 255 then none else some v.toNat := by
  obtain ⟨given, big, h⟩ | ⟨absent, h⟩ | ⟨small, h⟩ := retryArg_cases v
  · simp [h, given, big]
  · simp [h, absent, eq_comm]
  · have given : v.toNat ≠ 255 := by omega
    simp [h, small, given, eq_comm]

/-! ### What the kind asks of the others -/

/-- The reply limit is examined and recorded for FETCH alone. -/
theorem replyLimitArg_eq_some_iff (k : RequestKind) (v : Byte) (limit : Option Nat) :
    replyLimitArg k v = some limit ↔
      (k.code.toNat = 2 → v.toNat ≤ 32) ∧
        limit = if k.code.toNat = 2 then some v.toNat else none := by
  cases k with
  | fetch =>
    by_cases h : v.toNat ≤ 32 <;>
      simp [replyLimitArg, RequestKind.code, inRange, h, eq_comm]
  | send | probe | broadcast => simp [replyLimitArg, RequestKind.code, eq_comm]

/-- The payload lengths of each kind, by its code. -/
theorem RequestKind.allowsLength_iff (k : RequestKind) (n : Nat) :
    k.allowsLength n = true ↔
      (k.code.toNat = 1 ∨ k.code.toNat = 4 → 1 ≤ n ∧ n ≤ 32) ∧
        (k.code.toNat = 2 → n ≤ 8) ∧ (k.code.toNat = 3 → n = 0) := by
  cases k <;> simp [RequestKind.allowsLength, RequestKind.code, inRange_eq_true_iff]

/-- The stations of each kind, by its code. -/
theorem RequestKind.allowsStation_iff (k : RequestKind) (a : Nat) :
    k.allowsStation a = true ↔
      (k.code.toNat = 4 → a = 0) ∧ (k.code.toNat ≠ 4 → 1 ≤ a ∧ a ≤ 126) := by
  cases k <;> simp [RequestKind.allowsStation, RequestKind.code, inRange_eq_true_iff]

/-! ### The whole body -/

/-- A body makes a request exactly where each of its bytes is read and the length and the station
suit the kind; the request then holds what the bytes read as, and its other fields are those of a
request that has not been tried (Table 3-1). -/
theorem submitArgs_eq_some_iff (tag kind station urgent retry limit : Byte) (payload : List Byte)
    (r : Request) :
    submitArgs (tag :: kind :: station :: urgent :: retry :: limit :: payload) = some r ↔
      r.kind.code = kind ∧ ofFlag urgent = some r.urgent ∧
        retryArg retry = some r.retryBudget ∧ replyLimitArg r.kind limit = some r.replyLimit ∧
        r.kind.allowsLength payload.length = true ∧
        r.kind.allowsStation station.toNat = true ∧
        r.tag = tag.toNat ∧ r.station = station.toNat ∧ r.payload = payload ∧ r.attempts = 0 ∧
        r.cancelRequested = false ∧ r.lastFault = none ∧ r.nakReason = none ∧
        r.replyPayload = none := by
  rw [← RequestKind.ofCode_eq_some]
  obtain ⟨rtag, rkind, rstation, rurgent, rbudget, rlimit, rpayload, rattempts, rcancel, rfault,
    rnak, rreply⟩ := r
  constructor
  · intro h
    simp only [submitArgs] at h
    split at h
    next k u budget hk hu hbudget =>
      split at h
      next lim hlim =>
        split at h
        next fits =>
          rw [Bool.and_eq_true] at fits
          cases h
          exact ⟨hk, hu, hbudget, hlim, fits.1, fits.2, rfl, rfl, rfl, rfl, rfl, rfl, rfl, rfl⟩
        next => cases h
      next => cases h
    next => cases h
  · rintro ⟨hk, hu, hbudget, hlim, length, target, rfl, rfl, rfl, rfl, rfl, rfl, rfl, rfl⟩
    simp only at hk hu hbudget hlim length target
    simp [submitArgs, hk, hu, hbudget, hlim, length, target]

/-- A body too short for the six fixed bytes makes no request. -/
theorem submitArgs_of_length_lt {body : List Byte} (short : body.length < 6) :
    submitArgs body = none := by
  match body, short with
  | [], _ | [_], _ | [_, _], _ | [_, _, _], _ | [_, _, _, _], _ | [_, _, _, _, _], _ => rfl
  | _ :: _ :: _ :: _ :: _ :: _ :: _, short => simp at short; omega

/-- The bytes that pass every test of R46 make a request. -/
theorem submitArgs_isSome_iff (tag kind station urgent retry limit : Byte)
    (payload : List Byte) :
    (submitArgs (tag :: kind :: station :: urgent :: retry :: limit :: payload)).isSome = true ↔
      ∃ k : RequestKind, k.code = kind ∧ urgent.toNat ≤ 1 ∧ (retry.toNat = 255 ∨ retry.toNat ≤ 7) ∧
        (kind.toNat = 2 → limit.toNat ≤ 32) ∧ k.allowsLength payload.length = true ∧
        k.allowsStation station.toNat = true := by
  rw [Option.isSome_iff_exists]
  simp only [submitArgs_eq_some_iff, ofFlag_eq_some_iff, retryArg_eq_some_iff,
    replyLimitArg_eq_some_iff]
  constructor
  · rintro ⟨r, rfl, ⟨flag, -⟩, ⟨budget, -⟩, ⟨lim, -⟩, length, target, -⟩
    exact ⟨r.kind, rfl, flag, budget, lim, length, target⟩
  · rintro ⟨k, rfl, flag, budget, lim, length, target⟩
    exact ⟨{ tag := tag.toNat, kind := k, station := station.toNat
             urgent := decide (urgent.toNat = 1)
             retryBudget := if retry.toNat = 255 then none else some retry.toNat
             replyLimit := if k.code.toNat = 2 then some limit.toNat else none
             payload := payload, attempts := 0, cancelRequested := false, lastFault := none
             nakReason := none, replyPayload := none },
      rfl, ⟨flag, rfl⟩, ⟨budget, rfl⟩, ⟨lim, rfl⟩, length, target, rfl, rfl, rfl, rfl, rfl, rfl, rfl,
      rfl⟩

/-- Settles O27: each test of R46 is a lemma over its own byte, and `submitArgs` makes a request
exactly where all of them pass. -/
theorem submitArgumentsAreTested : Obligations.SubmitArgumentsAreTested := by
  refine ⟨fun tag kind station urgent retry limit payload => ⟨?tests, ?fields⟩,
    fun body => submitArgs_of_length_lt⟩
  case tests =>
    rw [submitArgs_isSome_iff, ← RequestKind.exists_code_eq_iff kind]
    constructor
    · rintro ⟨k, rfl, flag, budget, lim, length, target⟩
      obtain ⟨text, fetch, probe⟩ := (k.allowsLength_iff _).1 length
      obtain ⟨everyone, one⟩ := (k.allowsStation_iff _).1 target
      exact ⟨⟨k, rfl⟩, flag, text, fetch, probe, everyone, one, budget, lim⟩
    · rintro ⟨⟨k, rfl⟩, flag, text, fetch, probe, everyone, one, budget, lim⟩
      exact ⟨k, rfl, flag, budget, lim, (k.allowsLength_iff _).2 ⟨text, fetch, probe⟩,
        (k.allowsStation_iff _).2 ⟨everyone, one⟩⟩
  case fields =>
    intro r made
    obtain ⟨rfl, flag, budget, lim, -, -, hTag, hStation, hPayload, untried⟩ :=
      (submitArgs_eq_some_iff ..).1 made
    exact ⟨rfl, hTag, hStation, ((ofFlag_eq_some_iff ..).1 flag).2,
      ((retryArg_eq_some_iff ..).1 budget).2, ((replyLimitArg_eq_some_iff ..).1 lim).2, hPayload,
      untried⟩

end Sys2Proof.Machine

/-! What a command can do: every command is one of a few happenings, and a host command on a port is one
of a few acts between the hearing of its packet and its response. Each invariant of the step is proved
over these cases. -/

namespace Sys2Proof.Machine

/-! ### What the arguments of a body are -/

theorem lapseArg_eq_some {body : List Byte} {n : Nat} (h : lapseArg body = some n) :
    n = 0 ∨ (50 ≤ n ∧ n ≤ 60000) := by
  unfold lapseArg at h
  split at h
  · split at h
    next hr => cases h; simpa [inRange] using hr
    next => cases h
  · cases h

theorem enrollArgs_eq_some {body : List Byte} {a : Nat} {poll : Bool}
    (h : enrollArgs body = some (a, poll)) : 1 ≤ a ∧ a ≤ 126 := by
  unfold enrollArgs at h
  split at h
  next x v =>
    split at h
    next hr =>
      obtain ⟨b, -, hb⟩ := Option.map_eq_some_iff.1 h
      cases hb
      simpa [inRange] using hr
    next => cases h
  next => cases h

theorem renewArgs_eq_some {body : List Byte} {t d : Nat} (h : renewArgs body = some (t, d)) :
    t ≤ 126 ∧ 1 ≤ d ∧ d ≤ 60000 := by
  unfold renewArgs at h
  split at h
  · split at h
    next hr => cases h; simpa [inRange] using hr
    next => cases h
  · cases h

theorem claimArgs_eq_some {body : List Byte} {t d : Nat} {w : Bool}
    (h : claimArgs body = some (t, d, w)) : t ≤ 126 ∧ 1 ≤ d ∧ d ≤ 60000 := by
  unfold claimArgs at h
  split at h
  next x hi lo v =>
    split at h
    next hr =>
      obtain ⟨b, -, hb⟩ := Option.map_eq_some_iff.1 h
      cases hb
      simpa [inRange] using hr
    next => cases h
  next => cases h

theorem configArg_eq_some {body : List Byte} {c : LineConfig} (h : configArg body = some c) :
    c.inRanges = true := by
  unfold configArg at h
  split at h
  next =>
    dsimp only at h
    split at h
    next hr => cases h; exact hr
    next => cases h
  next => cases h

/-- The request that a body asks for is a PENDING request in its ranges, not tried yet (R46, Table
3-1). -/
theorem submitArgs_ok {body : List Byte} {r : Request} (p : Port) (h : submitArgs body = some r) :
    (Slot.pending p r).Ok := by
  match body with
  | tag :: kind :: station :: urgent :: retry :: limit :: payload =>
    obtain ⟨hkind, -, hbudget, hlim, hlength, hstation, htag, hst, hpay, h0, hc, hf, hn, hr⟩ :=
      (submitArgs_eq_some_iff ..).1 h
    have hb := ((retryArg_eq_some_iff ..).1 hbudget)
    have hl := ((replyLimitArg_eq_some_iff ..).1 hlim)
    have ht : r.tag ≤ 255 := by have := tag.isLt; omega
    have hbud : ∀ b ∈ r.retryBudget, b ≤ 7 := by
      intro b hb'
      rw [hb.2] at hb'
      split at hb' <;> simp at hb'
      have := hb.1
      omega
    have hcode : r.kind.code.toNat = 2 ↔ r.kind = .fetch := by cases r.kind <;> decide
    have hsome : r.replyLimit.isSome ↔ r.kind = .fetch := by
      rw [hl.2, ← hcode]
      split <;> simp_all
    have hlim' : ∀ n ∈ r.replyLimit, n ≤ 32 := by
      intro n hn'
      rw [hl.2] at hn'
      split at hn' <;> simp at hn'
      next h2 => rw [← hn']; exact hl.1 h2
    refine ⟨?_, by simp [Slot.progressOk, h0, hc, hf, hn, hr]⟩
    intro r' hr'
    obtain rfl : r = r' := by simpa [Slot.request?] using hr'
    exact ⟨ht, by rw [hpay]; exact hlength, by rw [hst]; exact hstation, hbud, hsome, hlim',
      by omega, by simp [hn], by simp [hr]⟩
  | [] | [_] | [_, _] | [_, _, _] | [_, _, _, _] | [_, _, _, _, _] => cases h

/-! ### The acts of host commands -/

/-- What the command `c` may do on the port between the hearing of its packet and its response. A
refusal and a reading do nothing. -/
inductive Act (c : Instr) (p : Port) (s : State) : State → Prop
  | nothing : Act c p s s
  | attach (body : List Byte) (lapse : Nat) (command : c = .attach p body)
      (detached : s.isAttached p = false) (range : lapse = 0 ∨ (50 ≤ lapse ∧ lapse ≤ 60000)) :
      Act c p s ((s.onRecord p (·.attach lapse)).timerSet p)
  | detach (body : List Byte) (command : c = .detach p body) (attached : s.isAttached p = true) :
      Act c p s (s.tearDown p .detach)
  | nextEvent (body : List Byte) (command : c = .nextEvent p body)
      (attached : s.isAttached p = true) : Act c p s (s.removeNotice p)
  | enroll (a : Nat) (poll : Bool) (range : 1 ≤ a ∧ a ≤ 126) (absent : s.station? a = none)
      (room : s.directory.length < 64) :
      Act c p s ((s.putStation (.enrolled a poll)).selectIf poll)
  | dismiss (e : StationEntry) (found : s.station? e.address = some e)
      (unused : s.inUse e.address = false) :
      Act c p s
        ((s.postStationState e e.state .removed).withDirectory
          (tableDrop StationEntry.address e.address s.directory))
  | setStation (e : StationEntry) (poll : Bool) (found : s.station? e.address = some e) :
      Act c p s ((s.putStation { e with pollEnabled := poll }).selectIf poll)
  | subscribe (e : StationEntry) (found : s.station? e.address = some e)
      (attached : s.isAttached p = true) :
      Act c p s (s.putStation { e with subscribers := addSubscription p e.subscribers })
  | unsubscribe (e : StationEntry) (found : s.station? e.address = some e) :
      Act c p s
        (s.putStation
          { e with subscribers := e.subscribers.filter (fun x => decide (x.port ≠ p)) })
  | grant (t d : Nat) (target : t ≤ 126) (duration : 1 ≤ d ∧ d ≤ 60000)
      (attached : s.isAttached p = true)
      (enrolled : t ≠ 0 → (s.station? t).isSome = true) (free : s.claim? t = none)
      (capacity : s.claims.length < 16) (room : (s.queues.get p).sum + 1 ≤ 16) :
      Act c p s
        (((s.putClaim { target := t, holder := p, remaining := d, waiters := [] }).claimSet
          t).onQueue p (·.take 1))
  | wait (k : ClaimRecord) (d : Nat) (duration : 1 ≤ d ∧ d ≤ 60000)
      (attached : s.isAttached p = true) (found : s.claim? k.target = some k)
      (other : k.holder ≠ p) (fresh : ∀ w ∈ k.waiters, w.port ≠ p)
      (capacity : k.waiters.length < 3) (room : (s.queues.get p).sum + 2 ≤ 16) :
      Act c p s ((s.putClaim { k with waiters := k.waiters ++ [⟨p, d⟩] }).onQueue p (·.take 2))
  | renew (k : ClaimRecord) (d : Nat) (duration : 1 ≤ d ∧ d ≤ 60000)
      (found : s.claim? k.target = some k) (holder : k.holder = p) :
      Act c p s (s.renewClaim k d)
  | release (k : ClaimRecord) (attached : s.isAttached p = true)
      (found : s.claim? k.target = some k) (holder : k.holder = p) :
      Act c p s ((s.onQueue p (·.release 1)).holderLeaves k.target)
  | submit (i : Nat) (r : Request) (ok : (Slot.pending p r).Ok) (attached : s.isAttached p = true)
      (fresh : s.tagged? p r.tag = none)
      (enrolled : r.kind ≠ .broadcast → (s.station? r.station).isSome = true)
      (quota : s.slotsOwned p < 12) (room : (s.queues.get p).sum + 1 ≤ 16)
      (free : s.freeSlot? = some i) :
      Act c p s (s.fillSlot p i r).select
  | cancelPending (i : Nat) (q : Port) (r : Request) (slot : s.slot i = .pending q r)
      (owner : q = p) :
      Act c p s ((s.unlist p i).endRequest i .cancelled)
  | cancelActive (i : Nat) (q : Port) (r : Request) (slot : s.slot i = .active q r) :
      Act c p s (s.writeSlot i (fun r => { r with cancelRequested := true }))
  | start (line : s.scheduler.line ≠ .running) :
      Act c p s (s.changeLine .running .start).select
  | halt (line : s.scheduler.line = .running) (idle : s.scheduler.busy = .none) :
      Act c p s (s.changeLine .stopped .halt)
  | drain (line : s.scheduler.line = .running) (busy : s.scheduler.busy ≠ .none) :
      Act c p s (s.withScheduler { s.scheduler with line := .draining })
  | cut (line : s.scheduler.line ≠ .stopped) :
      Act c p s ((s.cutTransaction.withEngine s.engine.cut).changeLine .stopped .cut)
  | cutStopped (line : s.scheduler.line = .stopped) :
      Act c p s (s.cutTransaction.withEngine s.engine.cut)
  | sweepOff : Act c p s (s.withScheduler (s.scheduler.setPoll p .off))
  | sweepOn (m : PollMode) (mode : m ≠ .off) (attached : s.isAttached p = true) :
      Act c p s (s.withScheduler (s.scheduler.setPoll p m)).select
  | configure (k : LineConfig) (body : List Byte) (command : c = .setLine p body)
      (bars : s.lineClaimBars p = false)
      (range : k.inRanges = true) (idle : s.engine.phase = .idle) :
      Act c p s (s.withEngine { s.engine with active := k, staged := none })
  | stage (k : LineConfig) (range : k.inRanges = true) (busy : s.engine.phase ≠ .idle) :
      Act c p s (s.withEngine { s.engine with staged := some k })

section
variable {c : Instr} {p : Port} {s : State} {body : List Byte}

theorem attachEffect_acts (command : c = .attach p body) :
    Act c p s (attachEffect p body s).1 := by
  unfold attachEffect
  split
  next => exact .nothing
  next detached =>
    split
    next => exact .nothing
    next lapse h => exact .attach body lapse command (by simpa using detached) (lapseArg_eq_some h)

theorem attachedOnly_acts {e : Effect}
    (h : s.isAttached p = true → Act c p s (e s).1) : Act c p s (attachedOnly p e s).1 := by
  unfold attachedOnly
  split
  next attached => exact h attached
  next => exact .nothing

theorem lineControl_acts {e : Effect}
    (h : s.isAttached p = true → s.lineClaimBars p = false → Act c p s (e s).1) :
    Act c p s (lineControl p e s).1 := by
  refine attachedOnly_acts fun attached => ?_
  split
  next => exact .nothing
  next bars => exact h attached (by simpa using bars)

theorem withoutArgument_acts {e : Effect} (h : Act c p s (e s).1) :
    Act c p s (withoutArgument body e s).1 := by
  unfold withoutArgument
  split
  · exact h
  · exact .nothing

theorem onStation_acts {e : StationEntry → Effect}
    (h : ∀ x, s.station? x.address = some x → Act c p s (e x s).1) :
    Act c p s (onStation body e s).1 := by
  unfold onStation
  split
  next => exact .nothing
  next a =>
    split
    next => exact .nothing
    next x found => exact h x (by rw [(State.station?_some found).2]; exact found)

theorem detachEffect_acts (command : c = .detach p body) (attached : s.isAttached p = true) :
    Act c p s (detachEffect p body s).1 := by
  unfold detachEffect
  split
  · exact .detach body command attached
  · exact .nothing

theorem nextEventEffect_acts (command : c = .nextEvent p body) (attached : s.isAttached p = true) :
    Act c p s (nextEventEffect p body s).1 := by
  unfold nextEventEffect
  split
  · exact .nextEvent body command attached
  · exact .nothing

theorem enrollEffect_acts : Act c p s (enrollEffect body s).1 := by
  unfold enrollEffect
  split
  next => exact .nothing
  next a poll h =>
    split
    next => exact .nothing
    next absent =>
      split
      next => exact .nothing
      next room =>
        exact .enroll a poll (enrollArgs_eq_some h) (by simpa using absent)
          (by simpa [directoryCapacity] using room)

theorem dismissEffect_acts : Act c p s (dismissEffect body s).1 := by
  refine onStation_acts fun e found => ?_
  dsimp only
  split
  next => exact .nothing
  next unused =>
    have h := Act.dismiss (c := c) (p := p) e found (by simpa using unused)
    simpa using h

theorem setStationEffect_acts : Act c p s (setStationEffect body s).1 := by
  unfold setStationEffect
  split
  next => exact .nothing
  next a v h =>
    split
    next => exact .nothing
    next e found =>
      split
      next => exact .nothing
      next poll _ =>
        exact .setStation e poll (by rw [(State.station?_some found).2]; exact found)

theorem claimEffect_acts (attached : s.isAttached p = true) :
    Act c p s (claimEffect p body s).1 := by
  unfold claimEffect
  split
  next => exact .nothing
  next t d w h =>
    obtain ⟨target, duration⟩ := claimArgs_eq_some h
    split
    next => exact .nothing
    next known =>
      split
      next free =>
        unfold grantClaim
        split
        next => exact .nothing
        next capacity =>
          split
          next => exact .nothing
          next room =>
            refine .grant t d target duration attached (fun ht => ?_) free
              (by simpa [claimCapacity] using capacity)
              (by simpa [EventQueue.grants, queueRoom] using room)
            exact Option.isSome_iff_ne_none.2 fun hn => known ⟨ht, hn⟩
      next k found =>
        split
        next => exact .nothing
        next other =>
          split
          next => exact .nothing
          next fresh =>
            unfold waitForClaim
            split
            next => exact .nothing
            next =>
              split
              next => exact .nothing
              next capacity =>
                split
                next => exact .nothing
                next room =>
                  exact .wait k d duration attached
                    (by rw [(State.claim?_some found).2]; exact found) other
                    (by simpa using fresh) (by simpa [waitCapacity] using capacity)
                    (by simpa [EventQueue.grants, queueRoom] using room)

/-- The claim that a port is found to hold. -/
theorem State.heldBy?_some {t : Nat} {k : ClaimRecord} (h : s.heldBy? p t = some k) :
    s.claim? k.target = some k ∧ k.target = t ∧ k.holder = p := by
  unfold State.heldBy? at h
  obtain ⟨found, holder⟩ := Option.filter_eq_some_iff.1 h
  have := (State.claim?_some found).2
  exact ⟨this ▸ found, this, by simpa using holder⟩

theorem renewEffect_acts : Act c p s (renewEffect p body s).1 := by
  unfold renewEffect
  split
  next => exact .nothing
  next t d h =>
    split
    next => exact .nothing
    next k held =>
      obtain ⟨found, -, holder⟩ := State.heldBy?_some held
      exact .renew k d (renewArgs_eq_some h).2 found holder

theorem releaseEffect_acts (attached : s.isAttached p = true) :
    Act c p s (releaseEffect p body s).1 := by
  unfold releaseEffect
  split
  next => exact .nothing
  next t h =>
    split
    next => exact .nothing
    next k held =>
      obtain ⟨found, rfl, holder⟩ := State.heldBy?_some held
      exact .release k attached found holder

theorem claimStatusEffect_acts : Act c p s (claimStatusEffect body s).1 := by
  unfold claimStatusEffect
  split <;> exact .nothing

theorem submitEffect_acts (attached : s.isAttached p = true) :
    Act c p s (submitEffect p body s).1 := by
  unfold submitEffect
  split
  next => exact .nothing
  next r h =>
    split
    next => exact .nothing
    next fresh =>
      split
      next => exact .nothing
      next known =>
        split
        next => exact .nothing
        next quota =>
          split
          next => exact .nothing
          next room =>
            split
            next => exact .nothing
            next i free =>
              refine .submit i r (submitArgs_ok p h) attached fresh (fun hk => ?_)
                (by simpa [slotQuota] using quota)
                (by simpa [EventQueue.grants, queueRoom] using room) free
              exact Option.isSome_iff_ne_none.2 fun hn => known ⟨hk, hn⟩

/-- The slot that a tag names is one of the caller's that carries the tag (R42). -/
theorem State.tagged?_some {tag i : Nat} (h : s.tagged? p tag = some i) :
    i < s.slots.length ∧ (s.slot i).owner? = some p ∧
      ∃ r, (s.slot i).request? = some r ∧ r.tag = tag := by
  unfold State.tagged? at h
  rw [List.find?_range_eq_some] at h
  obtain ⟨found, inside, -⟩ := h
  simp only [Bool.and_eq_true, decide_eq_true_eq, Option.any_eq_true, beq_iff_eq] at found
  exact ⟨by simpa using inside, found.1, found.2⟩

theorem cancelEffect_acts : Act c p s (cancelEffect p body s).1 := by
  unfold cancelEffect
  split
  next => exact .nothing
  next tag =>
    split
    next => exact .nothing
    next i h =>
      obtain ⟨-, owner, -⟩ := State.tagged?_some h
      split
      next q r slot =>
        exact .cancelPending i q r slot (by simpa [slot, Slot.owner?] using owner)
      next q r slot => exact .cancelActive i q r slot
      next => exact .nothing
      next => exact .nothing

theorem lineStartEffect_acts : Act c p s (lineStartEffect s).1 := by
  unfold lineStartEffect
  split
  next => exact .nothing
  next line => exact .start (by rw [line]; decide)
  next line => exact .start (by rw [line]; decide)

theorem lineHaltEffect_acts : Act c p s (lineHaltEffect s).1 := by
  unfold lineHaltEffect
  split
  next line =>
    split
    next idle => exact .halt line idle
    next busy => exact .drain line busy
  next => exact .nothing
  next => exact .nothing

/-- The cut of a transaction leaves the line state and the engine as they are. -/
@[simp] theorem State.cutTransaction_line (s : State) :
    s.cutTransaction.scheduler.line = s.scheduler.line := by
  unfold State.cutTransaction
  split
  · rfl
  · split <;> simp [State.clearTransaction]

theorem lineCutEffect_acts : Act c p s (lineCutEffect s).1 := by
  unfold lineCutEffect
  dsimp only
  split
  next line =>
    simp only [State.withEngine_scheduler, State.cutTransaction_line] at line
    exact .cut (by rw [line]; decide)
  next line =>
    simp only [State.withEngine_scheduler, State.cutTransaction_line] at line
    exact .cut (by rw [line]; decide)
  next line =>
    simp only [State.withEngine_scheduler, State.cutTransaction_line] at line
    exact .cutStopped line

theorem setPollEffect_acts (attached : s.isAttached p = true) :
    Act c p s (setPollEffect p body s).1 := by
  unfold setPollEffect
  split
  next => exact .nothing
  next => exact .sweepOff
  next => exact .sweepOn .once (by decide) attached
  next => exact .sweepOn .continuous (by decide) attached

theorem setLineEffect_acts (command : c = .setLine p body) (bars : s.lineClaimBars p = false) :
    Act c p s (setLineEffect body s).1 := by
  unfold setLineEffect
  split
  next => exact .nothing
  next k h =>
    split
    next idle => exact .configure k body command bars (configArg_eq_some h) idle
    next busy => exact .stage k (configArg_eq_some h) busy

theorem lineStatusEffect_acts : Act c p s (lineStatusEffect body s).1 := by
  unfold lineStatusEffect
  split <;> exact .nothing

theorem portStatusEffect_acts : Act c p s (portStatusEffect p body s).1 := by
  unfold portStatusEffect
  split <;> exact .nothing

end

end Sys2Proof.Machine

/-! The happenings: what each command may make of a state, said once for all invariants of the step. -/

namespace Sys2Proof.Machine

/-! ### Results of an exchange -/

/-- A result as validation gives it: a reply's length suits its kind and its reason has three bits
(R114). -/
def ExchangeResult.Ok : ExchangeResult → Prop
  | .frame r => r.kind.allowsLength r.payload.length = true ∧ r.reason ≤ 7
  | .sent | .invalid _ | .silent | .stray => True

theorem formatCheck_ok (control : Byte) (payload : List Byte) (noise : Bool) :
    (formatCheck control payload noise).Ok ∧
      formatCheck control payload noise ≠ ExchangeResult.sent := by
  unfold formatCheck
  split
  next => exact ⟨trivial, nofun⟩
  next k _ =>
    split
    next => exact ⟨trivial, nofun⟩
    next length =>
      split
      next => exact ⟨trivial, nofun⟩
      next =>
        have h := control.isLt
        refine ⟨⟨by simpa using length, ?_⟩, nofun⟩
        dsimp only
        omega

theorem validate_ok (frame : List Character) :
    (validate frame).Ok ∧ validate frame ≠ ExchangeResult.sent := by
  unfold validate
  dsimp only
  split
  next => exact ⟨trivial, nofun⟩
  next =>
    split
    next => exact ⟨trivial, nofun⟩
    next => exact formatCheck_ok ..

/-! ### The engine between the ends of exchanges -/

/-- The engine goes on with the same exchange and the same configuration: what happens to it between
the beginning of an exchange and its end, or outside one. -/
structure Engine.Goes (e e' : Engine) : Prop where
  exchange : e'.exchange = e.exchange
  active : e'.active = e.active
  staged : e'.staged = e.staged
  phase : e'.phase = e.phase ∨ (e.phase.inExchange = true ∧ e'.phase.inExchange = true)
  keeps : e.Ok → e'.Ok

/-- The engine at the moment an exchange ends with a result: its exchange is the one in progress. -/
structure Engine.Ends (e e' : Engine) (result : ExchangeResult) : Prop where
  inExchange : e.phase.inExchange = true
  exchange : e'.exchange = e.exchange
  active : e'.active = e.active
  staged : e'.staged = e.staged
  keeps : e.Ok → e'.enterGap.Ok
  valid : result.Ok
  sent : result = .sent → ∃ f, e.exchange = some f ∧ f.address = 0

/-! ### What the engine's operations keep -/

/-- The counters are in their ranges (R121). -/
abbrev LineCounters.Ok (k : LineCounters) : Prop :=
  k.framesSent ≤ 65535 ∧ k.repliesValid ≤ 65535 ∧ k.repliesBad ≤ 65535 ∧ k.strayHeads ≤ 65535 ∧
  k.unsolicited ≤ 65535 ∧ k.cuts ≤ 65535

theorem satInc_le (m n : Nat) : satInc m n ≤ m := Nat.min_le_left ..

theorem LineCounters.countSent_ok {k : LineCounters} (h : k.Ok) : k.countSent.Ok :=
  ⟨satInc_le .., h.2⟩

theorem LineCounters.countReply_ok {k : LineCounters} (h : k.Ok) (result : ExchangeResult) :
    (k.countReply result).Ok := by
  cases result with
  | frame r => exact ⟨h.1, satInc_le .., h.2.2⟩
  | invalid f => exact ⟨h.1, h.2.1, satInc_le .., h.2.2.2⟩
  | sent | silent | stray => exact h

theorem LineCounters.countStray_ok {k : LineCounters} (h : k.Ok) : k.countStray.Ok := by
  obtain ⟨h1, h2, h3, -, h5⟩ := h
  exact ⟨h1, h2, h3, satInc_le .., h5⟩

theorem LineCounters.countUnsolicited_ok {k : LineCounters} (h : k.Ok) :
    k.countUnsolicited.Ok := by
  obtain ⟨h1, h2, h3, h4, -, h6⟩ := h
  exact ⟨h1, h2, h3, h4, satInc_le .., h6⟩

theorem LineCounters.countCut_ok {k : LineCounters} (h : k.Ok) : k.countCut.Ok := by
  obtain ⟨h1, h2, h3, h4, h5, -⟩ := h
  exact ⟨h1, h2, h3, h4, h5, satInc_le ..⟩

/-- An engine in GAP is sound where its configurations, its counters and the character on RXD are:
what it kept of the exchange is gone (R115). -/
theorem Engine.enterGap_ok {e : Engine} (cut : e.cutAcross = true → e.receiving = none)
    (active : e.active.inRanges = true) (staged : ∀ c ∈ e.staged, c.inRanges = true)
    (counters : e.counters.Ok) : e.enterGap.Ok := by
  simp only [Engine.Ok, Engine.enterGap]
  simp [active, counters, EnginePhase.inExchange]
  exact ⟨cut, staged⟩

/-- The parts of a sound engine that outlast an exchange. -/
theorem Engine.Ok.lasting {e : Engine} (h : e.Ok) :
    (e.cutAcross = true → e.receiving = none) ∧ e.active.inRanges = true ∧
      (∀ c ∈ e.staged, c.inRanges = true) ∧ e.counters.Ok := by
  obtain ⟨-, -, -, -, -, -, cut, -, active, staged, counters⟩ := h
  exact ⟨cut, active, staged, counters⟩

/-- An exchange that ends leaves a sound engine, whatever else has changed in its state with it. -/
theorem Engine.ends_keeps {e e' : Engine} (active : e'.active = e.active)
    (staged : e'.staged = e.staged)
    (receiving : e.receiving = none → e'.receiving = none) (cut : e'.cutAcross = e.cutAcross)
    (counters : e.counters.Ok → e'.counters.Ok) (h : e.Ok) : e'.enterGap.Ok := by
  obtain ⟨hcut, hactive, hstaged, hcounters⟩ := h.lasting
  exact Engine.enterGap_ok (fun hc => receiving (hcut (cut ▸ hc))) (active ▸ hactive)
    (staged ▸ hstaged) (counters hcounters)

/-! ### The happenings -/

/-- What the command `c` may make of a state. -/
inductive Happening (c : Instr) (s : State) : State → Prop
  | nothing : Happening c s s
  | packet (p : Port) (code : Byte) (body : List Byte) (u : State) (r : Response)
      (command : c.packetParts = some (p, code, body)) (receives : s.Receives p)
      (act : Act c p (s.heard p) u) : Happening c s (u.setWindow p (.answered r))
  | window (p : Port) (w : Window)
      (command : c = .selectFalls p ∨ c = .selectRises p ∨ (∃ bytes, c = .badPacket p bytes) ∨
        ∃ bytes, c = .fragment p bytes)
      (low : s.resetLow = true → s.windows.get p = .closed ∨ s.windows.get p = .ignored →
        w = .closed ∨ w = .ignored) :
      Happening c s (s.setWindow p w)
  | fragment (p : Port) (bytes : List Byte) (command : c = .fragment p bytes)
      (receives : s.Receives p) :
      Happening c s
        ((s.onRecord p fun r => { r with fragments := satInc 65535 r.fragments }).setWindow p
          .closed)
  | tick (command : c = .timebaseTick) (high : s.resetLow = false) :
      Happening c s (State.finishTick s.countDown.tickEnds.length s.countDown)
  | expiry (k : ClaimRecord) (found : s.claim? k.target = some k) :
      Happening c s ((s.reachClaim k.target).expire k.target)
  | lapse (p : Port) (command : c = .lapse p) (attached : s.isAttached p = true) :
      Happening c s ((s.reachPort p).tearDown p .lapse)
  | reset (command : c = .deviceReset) :
      Happening c s
        ((((State.reset.withResetLow true).withWindows (s.windows.map Window.atReset)).withPicks
          s.picks).withPending s.pending)
  | resetEnds (command : c = .deviceResetEnds) : Happening c s (s.withResetLow false)
  | engine (e : Engine) (high : s.engine.phase = .idle → s.resetLow = false)
      (goes : s.engine.Goes e) : Happening c s (s.withEngine e)
  | ends (e : Engine) (result : ExchangeResult) (ends : s.engine.Ends e result) :
      Happening c s ((s.withEngine e).endExchange result)
  | gapEnd (command : c = .interFrameGapEnd) (gap : s.engine.phase = .gap) :
      Happening c s (s.withEngine s.engine.enterIdle).resumeTransaction.select

section
variable {c : Instr} {s t : State}

/-- A packet that completes in a window that receives one is heard, acted on and answered; any other
changes nothing. -/
theorem takePacket_happens {p : Port} {code : Byte} {body : List Byte} {e : Effect}
    (command : c.packetParts = some (p, code, body))
    (act : Act c p (s.heard p) (e (s.heard p)).1) : Happening c s (s.takePacket p e) := by
  by_cases receives : s.Receives p
  · rw [State.takePacket_of_receives e receives]
    exact .packet p code body _ _ command receives act
  · rw [State.takePacket_of_not_receives e receives]
    exact .nothing

theorem badPacket_happens (p : Port) (bytes : List Byte)
    (h : execBadPacket p bytes s = .next t) : Happening (.badPacket p bytes) s t := by
  unfold execBadPacket at h
  split at h
  next receives =>
    split at h
    · cases h
      exact .window p _ (by simp) (fun _ closed => by simp [receives] at closed)
    · cases h
      exact .nothing
  all_goals
    cases h
    exact .nothing

theorem badCommand_happens (p : Port) (code : Byte) (body : List Byte)
    (h : execBadCommand p code body s = .next t) : Happening (.badCommand p code body) s t := by
  unfold execBadCommand at h
  split at h
  · cases h
    exact .nothing
  · cases h
    exact takePacket_happens rfl .nothing

theorem fragment_happens (p : Port) (bytes : List Byte)
    (h : execFragment p bytes s = .next t) : Happening (.fragment p bytes) s t := by
  unfold execFragment at h
  split at h
  · cases h
    exact .nothing
  · split at h
    next receives =>
      cases h
      exact .fragment p bytes rfl receives
    next =>
      cases h
      exact .window p .closed (by simp) (fun _ _ => .inl rfl)
    all_goals
      cases h
      exact .nothing

theorem tick_happens (h : execTimebaseTick s = .next t) : Happening .timebaseTick s t := by
  unfold execTimebaseTick at h
  split at h
  · cases h
    exact .nothing
  next high =>
    cases h
    exact .tick rfl (by simpa using high)

theorem claimExpiry_happens (target : Nat) (h : execClaimExpiry target s = .next t) :
    Happening (.claimExpiry target) s t := by
  unfold execClaimExpiry at h
  split at h
  · cases h
    exact .nothing
  next k found =>
    split at h
    · cases h
      obtain rfl := (State.claim?_some found).2
      exact .expiry k found
    · cases h
      exact .nothing

theorem lapse_happens (p : Port) (h : execLapse p s = .next t) : Happening (.lapse p) s t := by
  unfold execLapse at h
  split at h
  next due =>
    cases h
    exact .lapse p rfl due.1
  next =>
    cases h
    exact .nothing

theorem selectFalls_happens (p : Port) (h : execSelectFalls p s = .next t) :
    Happening (.selectFalls p) s t := by
  unfold execSelectFalls at h
  split at h
  · cases h
    exact .window p _ (by simp) (fun low _ => by simp [low])
  all_goals
    cases h
    exact .nothing

theorem lastStopBitEnd_happens (h : execLastStopBitEnd s = .next t) :
    Happening .lastStopBitEnd s t := by
  unfold execLastStopBitEnd at h
  split at h
  next f sending exchange =>
    dsimp only at h
    split at h
    next broadcast =>
      cases h
      refine .ends _ .sent ⟨by rw [sending]; rfl, rfl, rfl, rfl, ?_, trivial,
        fun _ => ⟨f, exchange, broadcast⟩⟩
      exact Engine.ends_keeps rfl rfl id rfl LineCounters.countSent_ok
    next =>
      cases h
      refine .engine _ (by simp [sending]) ⟨rfl, rfl, rfl, .inr ⟨by rw [sending]; rfl, rfl⟩, ?_⟩
      simp only [Engine.Ok, State.onCounters, State.withEngine_engine, Engine.enterTurnaround,
        LineCounters.countSent, satInc]
      grind [EnginePhase.inExchange]
  next =>
    cases h
    exact .nothing

theorem turnaroundEnd_happens (h : execTurnaroundEnd s = .next t) :
    Happening .turnaroundEnd s t := by
  unfold execTurnaroundEnd at h
  split at h
  next turnaround =>
    cases h
    refine .engine _ (by simp [turnaround])
      ⟨rfl, rfl, rfl, .inr ⟨by rw [turnaround]; rfl, rfl⟩, ?_⟩
    simp only [Engine.Ok, Engine.enterListening]
    grind [EnginePhase.inExchange]
  next =>
    cases h
    exact .nothing

/-- The window of the engine closes while the exchange goes on. -/
theorem windowCloses_happens
    (phase : s.engine.phase = .receiving ∨
      (s.engine.phase = .listening ∧ s.engine.receiving.isSome = true)) :
    Happening c s (s.withEngine { s.engine with windowOpen := false }) := by
  refine .engine _ (by rintro h; simp [h] at phase) ⟨rfl, rfl, rfl, .inl rfl, ?_⟩
  simp only [Engine.Ok]
  grind [EnginePhase.inExchange]

theorem replyWindowEnd_happens (h : execReplyWindowEnd s = .next t) :
    Happening .replyWindowEnd s t := by
  unfold execReplyWindowEnd at h
  split at h
  · cases h
    exact .nothing
  next =>
    dsimp only at h
    split at h
    next listening quiet =>
      cases h
      refine .ends _ _ ⟨by rw [listening]; rfl, rfl, rfl, rfl,
        Engine.ends_keeps rfl rfl id rfl id, ?_, ?_⟩
      · split <;> trivial
      · split <;> simp
    next listening receiving =>
      cases h
      exact windowCloses_happens (.inr ⟨listening, by simp [receiving]⟩)
    next receiving =>
      cases h
      exact windowCloses_happens (.inl receiving)
    next =>
      cases h
      exact .nothing

/-- The engine after a character that was received: whatever it counts, it listens on, or the exchange
ends where the window has ended (R109). -/
theorem listenOn_happens (e : Engine) (phase : s.engine.phase = .listening ∨ s.engine.phase = .receiving)
    (exchange : e.exchange = s.engine.exchange) (active : e.active = s.engine.active)
    (staged : e.staged = s.engine.staged) (receiving : e.receiving = none)
    (cut : e.cutAcross = s.engine.cutAcross) (de : e.de = s.engine.de) (counters : s.engine.counters.Ok → e.counters.Ok) :
    Happening c s (s.withEngine e).listenOn := by
  have inExchange : s.engine.phase.inExchange = true := by
    rcases phase with h | h <;> rw [h] <;> rfl
  unfold State.listenOn
  dsimp only
  split
  next opened =>
    refine .engine _ (by rintro h; simp [h] at phase)
      ⟨exchange, active, staged, .inr ⟨inExchange, rfl⟩, fun h => ?_⟩
    have hk := counters h.lasting.2.2.2
    simp only [State.withEngine_engine] at opened ⊢
    simp only [Engine.Ok] at h ⊢
    rw [de, exchange, active, staged, receiving, cut, opened]
    grind [EnginePhase.inExchange]
  next =>
    refine .ends _ _ ⟨inExchange, exchange, active, staged, ?_, ?_, ?_⟩
    · exact Engine.ends_keeps active staged (fun _ => receiving) cut counters
    · split <;> trivial
    · split <;> simp

/-- A head taken in the window: it opens an assembly, or is a stray (R110, R111). -/
theorem takeHead_happens (e : Engine) (d : Character)
    (phase : s.engine.phase = .listening ∨ s.engine.phase = .receiving)
    (exchange : e.exchange = s.engine.exchange) (active : e.active = s.engine.active)
    (staged : e.staged = s.engine.staged) (receiving : e.receiving = none)
    (cut : e.cutAcross = s.engine.cutAcross) (window : e.windowOpen = s.engine.windowOpen)
    (de : e.de = s.engine.de) (counters : s.engine.counters.Ok → e.counters.Ok) :
    Happening c s ((s.withEngine e).takeHead d) := by
  have inExchange : s.engine.phase.inExchange = true := by
    rcases phase with h | h <;> rw [h] <;> rfl
  unfold State.takeHead
  split
  next =>
    refine .engine _ (by rintro h; simp [h] at phase)
      ⟨exchange, active, staged, .inr ⟨inExchange, rfl⟩, fun h => ?_⟩
    have hk := counters h.lasting.2.2.2
    simp only [State.withEngine_engine]
    simp only [Engine.Ok] at h ⊢
    rw [de, exchange, active, staged, receiving, cut, window]
    grind [EnginePhase.inExchange]
  next =>
    exact listenOn_happens { e with counters := e.counters.countStray, strays := true } phase exchange
      active staged receiving cut de fun h => LineCounters.countStray_ok (counters h)

/-- The end of a character that was cut across (R105, R108). -/
theorem characterLost_happens (high : s.engine.phase = .idle → s.resetLow = false) :
    Happening c s s.characterLost := by
  refine .engine _ high ⟨rfl, rfl, rfl, .inl rfl, ?_⟩
  simp only [Engine.Ok]
  grind

theorem characterInListening_happens (samples : CharSamples)
    (h : execCharacterInListening samples s = .next t) :
    Happening (.characterInListening samples) s t := by
  unfold execCharacterInListening at h
  split at h
  next d listening _ =>
    split at h
    · cases h
      exact characterLost_happens (by simp [listening])
    · dsimp only at h
      split at h
      · cases h
        exact takeHead_happens _ d (.inl listening) rfl rfl rfl rfl rfl rfl rfl id
      · cases h
        exact listenOn_happens _ (.inl listening) rfl rfl rfl rfl rfl rfl id
  next =>
    cases h
    exact .nothing

theorem newHead_happens (d : Character) (inWindow : Bool) (receiving : s.engine.phase = .receiving) :
    Happening c s (s.characterDone.newHead d inWindow) := by
  unfold State.newHead
  split
  next =>
    exact takeHead_happens _ d (.inr receiving) rfl rfl rfl rfl rfl rfl rfl
      LineCounters.countStray_ok
  next =>
    exact .ends _ _ ⟨by rw [receiving]; rfl, rfl, rfl, rfl,
      Engine.ends_keeps rfl rfl (fun _ => rfl) rfl LineCounters.countStray_ok, trivial, nofun⟩

/-- An exchange in RECEIVING ends with a result that is counted (R112 to R114). -/
theorem endReply_happens (e : Engine) (result : ExchangeResult)
    (receiving : s.engine.phase = .receiving)
    (exchange : e.exchange = s.engine.exchange) (active : e.active = s.engine.active)
    (staged : e.staged = s.engine.staged)
    (character : s.engine.receiving = none → e.receiving = none)
    (cut : e.cutAcross = s.engine.cutAcross)
    (counters : e.counters = s.engine.counters) (ok : result.Ok) (heard : result ≠ .sent) :
    Happening c s ((s.withEngine e).endReply result) := by
  refine .ends _ _ ⟨by rw [receiving]; rfl, exchange, active, staged, ?_, ok,
    fun h => absurd h heard⟩
  exact Engine.ends_keeps active staged character cut fun h =>
    LineCounters.countReply_ok (counters ▸ h) result

theorem addCharacter_happens (d : Character) (receiving : s.engine.phase = .receiving) :
    Happening c s (s.characterDone.addCharacter d) := by
  unfold State.addCharacter
  dsimp only
  split
  next =>
    refine .engine _ (by simp [receiving]) ⟨rfl, rfl, rfl, .inl rfl, ?_⟩
    simp only [Engine.Ok, State.characterDone, State.withEngine_engine]
    simp [receiving, EnginePhase.inExchange]
    grind
  next =>
    exact endReply_happens _ _ receiving rfl rfl rfl (fun _ => rfl) rfl rfl trivial nofun
  next =>
    exact endReply_happens _ _ receiving rfl rfl rfl (fun _ => rfl) rfl rfl (validate_ok _).1
      (validate_ok _).2

theorem characterInReceiving_happens (samples : CharSamples)
    (h : execCharacterInReceiving samples s = .next t) :
    Happening (.characterInReceiving samples) s t := by
  unfold execCharacterInReceiving at h
  split at h
  next d receiving _ =>
    split at h
    · cases h
      exact characterLost_happens (by simp [receiving])
    · dsimp only at h
      split at h
      · cases h
        exact newHead_happens d _ receiving
      · cases h
        exact addCharacter_happens d receiving
  next =>
    cases h
    exact .nothing

/-- A character heard in IDLE or GAP (R116). -/
theorem unsolicited_happens (high : s.resetLow = false)
    (off : s.engine.phase = .idle ∨ s.engine.phase = .gap) :
    Happening c s (s.characterDone.onCounters (·.countUnsolicited)) := by
  refine .engine _ (fun _ => high) ⟨rfl, rfl, rfl, .inl rfl, fun h => ?_⟩
  have hk := LineCounters.countUnsolicited_ok h.lasting.2.2.2
  simp only [Engine.Ok, State.characterDone, State.withEngine_engine] at h hk ⊢
  grind [EnginePhase.inExchange]

theorem unsolicitedCharacter_happens (samples : CharSamples)
    (h : execUnsolicitedCharacter samples s = .next t) :
    Happening (.unsolicitedCharacter samples) s t := by
  have heard : ∀ {u}, (s.engine.phase = .idle ∨ s.engine.phase = .gap) →
      (if s.resetLow then Host.Outcome.next s
        else if s.engine.cutAcross then .next s.characterLost
        else .next (s.characterDone.onCounters (·.countUnsolicited))) =
        (.next u : Host.Outcome State Fault Refusal) →
      Happening (.unsolicitedCharacter samples) s u := by
    intro u off h
    split at h
    · cases h
      exact .nothing
    next high =>
      split at h
      · cases h
        exact characterLost_happens fun _ => by simpa using high
      · cases h
        exact unsolicited_happens (by simpa using high) off
  unfold execUnsolicitedCharacter at h
  split at h
  next idle _ => exact heard (.inl idle) h
  next gap _ => exact heard (.inr gap) h
  next =>
    cases h
    exact .nothing

theorem characterGapLimit_happens (h : execCharacterGapLimit s = .next t) :
    Happening .characterGapLimit s t := by
  unfold execCharacterGapLimit at h
  split at h
  next receiving _ =>
    cases h
    exact endReply_happens s.engine _ receiving rfl rfl rfl id rfl rfl trivial nofun
  next =>
    cases h
    exact .nothing

theorem interFrameGapEnd_happens (h : execInterFrameGapEnd s = .next t) :
    Happening .interFrameGapEnd s t := by
  unfold execInterFrameGapEnd at h
  split at h
  next gap =>
    cases h
    exact .gapEnd rfl gap
  next =>
    cases h
    exact .nothing

theorem acceptedStartBit_happens (b : BitSamples) (h : execAcceptedStartBit b s = .next t) :
    Happening (.acceptedStartBit b) s t := by
  unfold execAcceptedStartBit at h
  split at h
  · cases h
    exact .nothing
  next accepted =>
    have high : s.resetLow = false := by simp at accepted; simpa using accepted.2
    split at h
    next off =>
      cases h
      refine .engine _ (fun _ => high) ⟨rfl, rfl, rfl, .inl rfl, ?_⟩
      simp only [Engine.receiverOff] at off
      simp only [Engine.Ok]
      grind [EnginePhase.inExchange]
    next =>
      split at h
      next seeks =>
        cases h
        refine .engine _ (fun _ => high) ⟨rfl, rfl, rfl, .inl rfl, ?_⟩
        simp only [Engine.seeks] at seeks
        simp only [Engine.Ok]
        grind [EnginePhase.inExchange]
      next =>
        cases h
        exact .nothing

/-- Every command is one of the happenings. -/
theorem exec_happens (h : exec c s = .next t) : Happening c s t := by
  cases c with
  | attach p body => cases h; exact takePacket_happens rfl (attachEffect_acts rfl)
  | detach p body =>
    cases h; exact takePacket_happens rfl (attachedOnly_acts (detachEffect_acts rfl))
  | portStatus p body => cases h; exact takePacket_happens rfl portStatusEffect_acts
  | nextEvent p body =>
    cases h; exact takePacket_happens rfl (attachedOnly_acts (nextEventEffect_acts rfl))
  | enroll p body =>
    cases h; exact takePacket_happens rfl (attachedOnly_acts fun _ => enrollEffect_acts)
  | dismiss p body =>
    cases h; exact takePacket_happens rfl (attachedOnly_acts fun _ => dismissEffect_acts)
  | setStation p body =>
    cases h; exact takePacket_happens rfl (attachedOnly_acts fun _ => setStationEffect_acts)
  | subscribe p body =>
    cases h
    exact takePacket_happens rfl
      (attachedOnly_acts fun attached => onStation_acts fun x found => .subscribe x found attached)
  | unsubscribe p body =>
    cases h
    exact takePacket_happens rfl
      (attachedOnly_acts fun _ => onStation_acts fun x found => .unsubscribe x found)
  | stationStatus p body =>
    cases h
    exact takePacket_happens rfl (attachedOnly_acts fun _ => onStation_acts fun _ _ => .nothing)
  | claim p body => cases h; exact takePacket_happens rfl (attachedOnly_acts claimEffect_acts)
  | renew p body =>
    cases h; exact takePacket_happens rfl (attachedOnly_acts fun _ => renewEffect_acts)
  | release p body =>
    cases h; exact takePacket_happens rfl (attachedOnly_acts releaseEffect_acts)
  | claimStatus p body =>
    cases h; exact takePacket_happens rfl (attachedOnly_acts fun _ => claimStatusEffect_acts)
  | submit p body => cases h; exact takePacket_happens rfl (attachedOnly_acts submitEffect_acts)
  | cancel p body =>
    cases h; exact takePacket_happens rfl (attachedOnly_acts fun _ => cancelEffect_acts)
  | lineStart p body =>
    cases h
    exact takePacket_happens rfl
      (lineControl_acts fun _ _ => withoutArgument_acts lineStartEffect_acts)
  | lineHalt p body =>
    cases h
    exact takePacket_happens rfl
      (lineControl_acts fun _ _ => withoutArgument_acts lineHaltEffect_acts)
  | lineCut p body =>
    cases h
    exact takePacket_happens rfl
      (lineControl_acts fun _ _ => withoutArgument_acts lineCutEffect_acts)
  | setPoll p body =>
    cases h
    exact takePacket_happens rfl (lineControl_acts fun attached _ => setPollEffect_acts attached)
  | lineStatus p body =>
    cases h; exact takePacket_happens rfl (attachedOnly_acts fun _ => lineStatusEffect_acts)
  | setLine p body =>
    cases h; exact takePacket_happens rfl (lineControl_acts fun _ => setLineEffect_acts rfl)
  | badPacket p bytes => exact badPacket_happens p bytes h
  | badCommand p code body => exact badCommand_happens p code body h
  | fragment p bytes => exact fragment_happens p bytes h
  | timebaseTick => exact tick_happens h
  | claimExpiry target => exact claimExpiry_happens target h
  | lapse p => exact lapse_happens p h
  | deviceReset => cases h; exact .reset rfl
  | lastStopBitEnd => exact lastStopBitEnd_happens h
  | turnaroundEnd => exact turnaroundEnd_happens h
  | replyWindowEnd => exact replyWindowEnd_happens h
  | characterInListening samples => exact characterInListening_happens samples h
  | characterInReceiving samples => exact characterInReceiving_happens samples h
  | unsolicitedCharacter samples => exact unsolicitedCharacter_happens samples h
  | characterGapLimit => exact characterGapLimit_happens h
  | interFrameGapEnd => exact interFrameGapEnd_happens h
  | acceptedStartBit b => exact acceptedStartBit_happens b h
  | deviceResetEnds => cases h; exact .resetEnds rfl
  | selectFalls p => exact selectFalls_happens p h
  | selectRises p =>
    cases h; exact .window p .closed (by simp) (fun _ _ => .inl rfl)

end

end Sys2Proof.Machine

/-! What a happening can do to the Line Engine, and the two statements that follow from it: the engine's
own invariant, and the moments at which the active configuration changes. -/

namespace Sys2Proof.Machine

/-! ### Operations that at most hand a frame to an idle engine -/

/-- The engine is as it was, or was idle and has taken a frame (R66, R107). -/
def Engine.Takes (e e' : Engine) : Prop := e' = e ∨ (e.phase = .idle ∧ ∃ f, e' = e.take f)

theorem Engine.Takes.refl (e : Engine) : e.Takes e := .inl rfl

theorem Engine.Takes.trans {e e' e'' : Engine} (h : e.Takes e') (h' : e'.Takes e'') :
    e.Takes e'' := by
  rcases h with rfl | ⟨idle, f, rfl⟩
  · exact h'
  · rcases h' with rfl | ⟨idle', -⟩
    · exact .inr ⟨idle, f, rfl⟩
    · cases idle'

/-- What happens to the engine alone in an operation. -/
abbrev State.EngineTakes (s t : State) : Prop := s.engine.Takes t.engine

theorem State.EngineTakes.of_eq {s t : State} (h : t.engine = s.engine) : s.EngineTakes t := .inl h

theorem State.beginAttempt_engine (s : State) (t : Transaction) :
    ∃ f, (s.beginAttempt t).engine = s.engine.take f := by
  unfold State.beginAttempt
  dsimp only
  split
  · exact ⟨_, by simp [State.handFrame]; rfl⟩
  · exact ⟨_, by simp [State.handFrame]; rfl⟩

theorem State.select_engineTakes (s : State) : s.EngineTakes s.select := by
  unfold State.select
  split
  next free =>
    have idle : s.engine.phase = .idle := by simp [State.lineFree] at free; exact free.2.1
    refine State.choose_cases (fun u => u.engine = s.engine) (fun u => s.EngineTakes u)
      ?offline ?visit ?request ?nothing _ _ (by simp) (by simp)
    case offline =>
      intro u p i q r h _ _ _
      simp [h]
    case visit =>
      intro u a credit h _
      obtain ⟨f, hf⟩ := State.beginAttempt_engine
        (u.withScheduler { u.scheduler with
          cursor := a
          visits := if u.scheduler.mode = .once then satInc 64 u.scheduler.visits
            else u.scheduler.visits
          credit := credit, busy := .visit a })
        { source := .visit, station := a, main := if u.isOffline a then .probe else .poll
          phase := .mainFrame }
      exact .inr ⟨idle, f, hf.trans (by simp [h])⟩
    case request =>
      intro u p i q r h _ _ _
      obtain ⟨f, hf⟩ := State.beginAttempt_engine
        ((((u.takeChoice p i).setSlot i
            (.active p
              { r with
                retryBudget :=
                  some (r.retryBudget.getD (u.takeChoice p i).engine.active.retryBudget) })).withScheduler
          { (u.takeChoice p i).scheduler with
            credit := satInc 8 (u.takeChoice p i).scheduler.credit, busy := .request i }))
        { source := .request i, station := r.station, main := r.kind.main, phase := .mainFrame }
      exact .inr ⟨idle, f, hf.trans (by simp [h])⟩
    case nothing =>
      intro u h _ _
      exact .inl h
  next => exact .refl _

theorem State.holderLeaves_engineTakes (s : State) (target : Nat) :
    s.EngineTakes (s.holderLeaves target) := by
  unfold State.holderLeaves
  split
  · exact .refl _
  · exact (State.EngineTakes.of_eq (by simp)).trans (State.select_engineTakes _)

theorem State.tearDown_engineTakes (s : State) (p : Port) (cause : TeardownCause) :
    s.EngineTakes (s.tearDown p cause) := by
  unfold State.tearDown
  dsimp only
  have h := State.leaveClaims_induct (fun u => s.EngineTakes u) p
    (fun u h => h) (fun u t h => h.trans (State.holderLeaves_engineTakes u t))
    (((s.endSession p cause).dropRequests p).heldTargets p).length
    ((s.endSession p cause).dropRequests p) (.of_eq (by simp))
  exact h.trans (State.EngineTakes.of_eq (by simp))

theorem State.expire_engineTakes (s : State) (target : Nat) :
    s.EngineTakes (s.expire target) := by
  rcases State.expire_cases s target with ⟨-, h⟩ | ⟨k, -, h⟩
  · rw [h]
    exact .refl _
  · rw [h]
    exact (State.EngineTakes.of_eq (by simp)).trans (State.holderLeaves_engineTakes _ _)

theorem State.finishTick_engineTakes (s : State) (fuel : Nat) :
    s.EngineTakes (State.finishTick fuel s.countDown) :=
  State.finishTick_induct (fun u => s.EngineTakes u) (fun _ h => h)
    (fun u x h => h.trans <| match x with
      | .expiry target => State.expire_engineTakes u target
      | .lapse p => State.tearDown_engineTakes u p .lapse)
    fuel _ (.refl _)

theorem State.resumeTransaction_engineTakes {s : State} (idle : s.engine.phase = .idle) :
    s.EngineTakes s.resumeTransaction := by
  rcases s.resumeTransaction_cases with h | ⟨t, -, ⟨-, h⟩ | ⟨-, h | ⟨i, -, h | ⟨q, r, -, -, h⟩⟩⟩⟩
  · exact .of_eq (by rw [h])
  · exact .inr ⟨idle, _, by rw [h]; rfl⟩
  · exact .of_eq (by rw [h]; simp)
  · exact .of_eq (by rw [h]; simp)
  · obtain ⟨f, hf⟩ := s.beginAttempt_engine t
    exact .inr ⟨idle, f, by rw [h, hf]⟩

@[simp] theorem State.endExchange_engine (s : State) (result : ExchangeResult) :
    (s.endExchange result).engine = s.engine.enterGap := by
  unfold State.endExchange
  dsimp only
  split
  · rfl
  · simp

/-! ### The engine after a command -/

/-- What the command `c` may make of the engine: all that can happen to it. -/
inductive EngineMove (c : Instr) (s : State) : Engine → Prop
  | takes (e : Engine) (h : s.engine.Takes e) : EngineMove c s e
  | configure (k : LineConfig) (p : Port) (body : List Byte) (command : c = .setLine p body)
      (controls : s.Controls p) (range : k.inRanges = true) (idle : s.engine.phase = .idle) :
      EngineMove c s { s.engine with active := k, staged := none }
  | stage (k : LineConfig) (range : k.inRanges = true) (busy : s.engine.phase ≠ .idle) :
      EngineMove c s { s.engine with staged := some k }
  | cut : EngineMove c s s.engine.cut
  | goes (e : Engine) (h : s.engine.Goes e) : EngineMove c s e
  | ends (e : Engine) (result : ExchangeResult) (h : s.engine.Ends e result) :
      EngineMove c s e.enterGap
  | gapEnd (command : c = .interFrameGapEnd) (gap : s.engine.phase = .gap) (e : Engine)
      (h : s.engine.enterIdle.Takes e) : EngineMove c s e
  | reset (command : c = .deviceReset) : EngineMove c s .reset

section
variable {c : Instr} {p : Port} {s t : State}

/-- An act that sets the configuration or cuts the line does that to the engine, and any other at most
begins a transaction. -/
theorem Act.engineMove (h : Act c p s t) : EngineMove c s t.engine := by
  cases h with
  | nothing => exact .takes _ (.refl _)
  | attach => exact .takes _ (.inl (by simp))
  | detach => exact .takes _ (s.tearDown_engineTakes p .detach)
  | nextEvent => exact .takes _ (.inl (by simp))
  | enroll a poll =>
    refine .takes _ ?_
    cases poll with
    | false => exact .inl rfl
    | true => exact State.select_engineTakes _
  | dismiss => exact .takes _ (.inl (by simp))
  | setStation e poll =>
    refine .takes _ ?_
    cases poll with
    | false => exact .inl rfl
    | true => exact State.select_engineTakes _
  | subscribe => exact .takes _ (.inl (by simp))
  | unsubscribe => exact .takes _ (.inl (by simp))
  | grant => exact .takes _ (.inl (by simp))
  | wait => exact .takes _ (.inl (by simp))
  | renew => exact .takes _ (.inl (by rw [State.renewClaim_eq]))
  | release k =>
    exact .takes _ ((State.EngineTakes.of_eq (by simp)).trans (State.holderLeaves_engineTakes _ _))
  | submit => exact .takes _ ((State.EngineTakes.of_eq (by simp)).trans (State.select_engineTakes _))
  | cancelPending => exact .takes _ (.inl (by simp))
  | cancelActive => exact .takes _ (.inl (by simp))
  | start => exact .takes _ ((State.EngineTakes.of_eq (by simp)).trans (State.select_engineTakes _))
  | halt => exact .takes _ (.inl (by simp))
  | drain => exact .takes _ (.inl rfl)
  | cut => simpa using EngineMove.cut (c := c) (s := s)
  | cutStopped => exact .cut
  | sweepOff => exact .takes _ (.inl rfl)
  | sweepOn => exact .takes _ ((State.EngineTakes.of_eq rfl).trans (State.select_engineTakes _))
  | configure k body command bars range idle =>
    exact .configure k p body command ((State.lineClaimBars_eq_false s p).1 bars) range idle
  | stage k range busy => exact .stage k range busy

theorem Happening.engineMove (h : Happening c s t) : EngineMove c s t.engine := by
  cases h with
  | nothing => exact .takes _ (.refl _)
  | packet p code body u r command receives act =>
    rw [(State.setWindow_frame ..).2.2.2.2.2.2.2.2.2.2.2.1]
    have move := act.engineMove
    generalize u.engine = e at move
    cases move with
    | takes _ h => exact .takes _ h
    | configure k q body command controls range idle =>
      exact .configure k q body command controls range idle
    | stage k range busy => exact .stage k range busy
    | cut => exact .cut
    | goes _ h => exact .goes _ h
    | ends e result h => exact .ends e result h
    | gapEnd command gap _ h => exact EngineMove.gapEnd (s := s) command gap _ h
    | reset command => exact .reset command
  | window => exact .takes _ (.inl (by simp))
  | fragment => exact .takes _ (.inl (by simp))
  | tick => exact .takes _ (s.finishTick_engineTakes _)
  | expiry k =>
    exact .takes _ ((State.EngineTakes.of_eq (by simp)).trans (State.expire_engineTakes _ _))
  | lapse p =>
    exact .takes _ ((State.EngineTakes.of_eq (by simp)).trans (State.tearDown_engineTakes _ _ _))
  | reset command => exact .reset command
  | resetEnds => exact .takes _ (.inl rfl)
  | engine e _ goes => exact .goes e goes
  | ends e result ends =>
    simpa using EngineMove.ends (c := c) e result ends
  | gapEnd command gap =>
    exact .gapEnd command gap _
      ((State.resumeTransaction_engineTakes rfl).trans (State.select_engineTakes _))

/-! ### The engine's invariant -/

/-- A frame is taken by an engine that is idle, which has no window open and no assembly. -/
theorem Engine.take_ok {e : Engine} (h : e.Ok) (idle : e.phase = .idle) (f : Frame) :
    (e.take f).Ok := by
  simp only [Engine.Ok, Engine.take] at h ⊢
  simp only [idle] at h
  simp [EnginePhase.inExchange]
  grind

theorem Engine.Takes.ok {e e' : Engine} (h : e.Takes e') (ok : e.Ok) : e'.Ok := by
  rcases h with rfl | ⟨idle, f, rfl⟩
  · exact ok
  · exact Engine.take_ok ok idle f

theorem Engine.enterIdle_ok {e : Engine} (h : e.Ok) (gap : e.phase = .gap) : e.enterIdle.Ok := by
  have range : (e.staged.getD e.active).inRanges = true := by
    cases hs : e.staged with
    | none => exact h.lasting.2.1
    | some k => exact h.lasting.2.2.1 k hs
  simp only [Engine.Ok, Engine.enterIdle] at h ⊢
  simp only [gap] at h
  simp [EnginePhase.inExchange, range] at h ⊢
  grind

theorem Engine.cut_ok {e : Engine} (h : e.Ok) : e.cut.Ok := by
  obtain ⟨hcut, active, staged, counters⟩ := h.lasting
  unfold Engine.cut
  split
  · exact Engine.enterGap_ok (e := { e with counters := e.counters.countCut }) hcut active staged
      (LineCounters.countCut_ok counters)
  · exact Engine.enterGap_ok hcut active staged counters
  · exact Engine.enterGap_ok hcut active staged counters
  · exact Engine.enterGap_ok hcut active staged counters
  · exact h
  · exact h

theorem EngineMove.ok {e : Engine} (h : EngineMove c s e) (ok : s.engine.Ok) : e.Ok := by
  cases h with
  | takes _ h => exact h.ok ok
  | configure k p body command controls range idle =>
    simp only [Engine.Ok] at ok ⊢
    simp [range]
    grind
  | stage k range busy =>
    simp only [Engine.Ok] at ok ⊢
    simp [range, busy]
    grind
  | cut => exact Engine.cut_ok ok
  | goes _ h => exact h.keeps ok
  | ends e result h => exact h.keeps ok
  | gapEnd command gap _ h => exact h.ok (Engine.enterIdle_ok ok gap)
  | reset => decide

/-- Settles O54: the engine after a command is one of the engine's moves, each of which keeps its
fields in agreement with its state. -/
theorem stepsKeepTheEngine : Obligations.StepsKeepTheEngine := fun _ _ ok h =>
  step_keeps State.EngineOk (fun _ _ h => h)
    (fun _ _ _ ok h => (exec_happens h).engineMove.ok ok) ok h

/-! ### The active configuration -/

@[simp] theorem Engine.Takes.active {e e' : Engine} (h : e.Takes e') : e'.active = e.active := by
  rcases h with rfl | ⟨-, f, rfl⟩
  · rfl
  · rfl

@[simp] theorem Engine.Takes.staged {e e' : Engine} (h : e.Takes e') : e'.staged = e.staged := by
  rcases h with rfl | ⟨-, f, rfl⟩
  · rfl
  · rfl

@[simp] theorem Engine.cut_active (e : Engine) : e.cut.active = e.active := by
  unfold Engine.cut
  split <;> rfl

/-- Settles O58: of the engine's moves only a SET_LINE in IDLE, the end of the gap and device reset
touch the active configuration. -/
theorem configurationChangesInIdleAlone : Obligations.ConfigurationChangesInIdleAlone := by
  intro c s t h changed
  have move := (exec_happens h).engineMove
  generalize t.engine = e at move changed ⊢
  cases move with
  | takes _ h => exact absurd h.active changed
  | configure k p body command controls range idle =>
    exact .inr (.inr ⟨p, body, command, idle, controls, rfl⟩)
  | stage => exact absurd rfl changed
  | cut => exact absurd s.engine.cut_active changed
  | goes _ h => exact absurd h.active changed
  | ends e result h => exact absurd h.active changed
  | gapEnd command gap _ h => exact .inr (.inl ⟨command, gap, h.active⟩)
  | reset command => exact .inl command

end

end Sys2Proof.Machine

/-! What a happening can do to the event queues: every operation but NEXT_EVENT, a delivery and a
teardown feeds them with notices that refer to no buffer. -/

namespace Sys2Proof.Machine

/-! ### Feeding a queue -/

/-- The notice refers to a buffer: it is a REPORT. -/
def Notice.isReport : Notice → Bool
  | .report _ => true
  | .completion _ | .claimGranted _ _ | .claimExpired _ | .stationState _ _ _ _ | .lineState _ _
  | .sweepDone _ => false

/-- The queue after offers and conversions of notices that are no REPORT, and after units have been
taken or freed. -/
inductive EventQueue.Fed (q : EventQueue) : EventQueue → Prop
  | refl : Fed q q
  | offer (q' : EventQueue) (x : Notice) (plain : x.isReport = false) (h : Fed q q') :
      Fed q (q'.offer x)
  | convert (q' : EventQueue) (x : Notice) (plain : x.isReport = false) (h : Fed q q') :
      Fed q (q'.convert x)
  | reserve (q' : EventQueue) (n : Nat) (h : Fed q q') : Fed q { q' with reserved := n }

theorem EventQueue.Fed.trans {q q' q'' : EventQueue} (h : q.Fed q') (h' : q'.Fed q'') :
    q.Fed q'' := by
  induction h' with
  | refl => exact h
  | offer _ x plain _ ih => exact .offer _ x plain ih
  | convert _ x plain _ ih => exact .convert _ x plain ih
  | reserve _ n _ ih => exact .reserve _ n ih

/-- What offering keeps and adds. -/
theorem EventQueue.offer_notices (q : EventQueue) (x : Notice) :
    (q.offer x).notices = q.notices ∨ (q.offer x).notices = q.notices ++ [x] := by
  rcases q.offer_cases x with ⟨-, h⟩ | ⟨-, h⟩
  · exact .inr (by rw [h])
  · exact .inl (by rw [h])

/-- Feeding adds notices at the end, none of them a REPORT. -/
theorem EventQueue.Fed.notices {q q' : EventQueue} (h : q.Fed q') :
    ∃ new, q'.notices = q.notices ++ new ∧ ∀ x ∈ new, x.isReport = false := by
  induction h with
  | refl => exact ⟨[], by simp, by simp⟩
  | offer q' x plain _ ih =>
    obtain ⟨new, heq, hnew⟩ := ih
    rcases q'.offer_notices x with h | h
    · exact ⟨new, by rw [h, heq], hnew⟩
    · exact ⟨new ++ [x], by rw [h, heq, List.append_assoc], by grind⟩
  | convert q' x plain _ ih =>
    obtain ⟨new, heq, hnew⟩ := ih
    exact ⟨new ++ [x], by simp [EventQueue.convert, EventQueue.push, heq], by grind⟩
  | reserve q' n _ ih => exact ih

/-- The records are as they were, and the queues of attached ports have at most been fed. -/
structure State.Feeds (s t : State) : Prop where
  records : t.records = s.records
  queues : ∀ p, t.queues.get p = s.queues.get p ∨
    (s.isAttached p = true ∧ (s.queues.get p).Fed (t.queues.get p))

section
variable {s t u : State}

theorem State.Feeds.refl (s : State) : s.Feeds s := ⟨rfl, fun _ => .inl rfl⟩

theorem State.Feeds.of_eq (records : t.records = s.records) (queues : t.queues = s.queues) :
    s.Feeds t := ⟨records, fun _ => .inl (by rw [queues])⟩

theorem State.Feeds.isAttached (h : s.Feeds t) (p : Port) : t.isAttached p = s.isAttached p :=
  State.isAttached_congr h.records p

theorem State.Feeds.trans (h : s.Feeds t) (h' : t.Feeds u) : s.Feeds u := by
  refine ⟨h'.records.trans h.records, fun p => ?_⟩
  rcases h'.queues p with h1 | ⟨a1, f1⟩
  · rw [h1]
    exact h.queues p
  · rw [h.isAttached] at a1
    rcases h.queues p with h2 | ⟨-, f2⟩
    · exact .inr ⟨a1, h2 ▸ f1⟩
    · exact .inr ⟨a1, f2.trans f1⟩

theorem State.Feeds.from_eq (h : t.Feeds u) (records : t.records = s.records)
    (queues : t.queues = s.queues) : s.Feeds u := (State.Feeds.of_eq records queues).trans h

theorem State.Feeds.to_eq (h : s.Feeds t) (records : u.records = t.records)
    (queues : u.queues = t.queues) : s.Feeds u := h.trans (.of_eq records queues)

/-- A queue that is fed keeps what it held, in order, at its front. -/
theorem State.Feeds.appends (h : s.Feeds t) (p : Port) :
    ∃ new, (t.queues.get p).notices = (s.queues.get p).notices ++ new := by
  rcases h.queues p with h | ⟨-, h⟩
  · exact ⟨[], by simp [h]⟩
  · obtain ⟨new, heq, -⟩ := h.notices
    exact ⟨new, heq⟩

/-- The queue of a detached port is not fed. -/
theorem State.Feeds.detached (h : s.Feeds t) {p : Port} (hp : s.isAttached p = false) :
    t.queues.get p = s.queues.get p := by
  rcases h.queues p with h | ⟨ha, -⟩
  · exact h
  · rw [hp] at ha; cases ha

/-! ### The operations that feed -/

theorem State.offer_feeds (s : State) (p : Port) {x : Notice} (plain : x.isReport = false) :
    s.Feeds (s.offer p x) := by
  refine ⟨by simp, fun q => ?_⟩
  rw [State.offer_queue]
  split
  next h =>
    obtain ⟨rfl, ha⟩ := h
    exact .inr ⟨ha, .offer _ x plain .refl⟩
  next => exact .inl rfl

theorem State.convert_feeds (s : State) (p : Port) {x : Notice} (plain : x.isReport = false) :
    s.Feeds (s.convert p x) := by
  refine ⟨by simp, fun q => ?_⟩
  unfold State.convert
  split
  next ha =>
    by_cases hq : q = p
    · subst hq
      exact .inr ⟨ha, by simpa using EventQueue.Fed.convert _ x plain .refl⟩
    · exact .inl (by simp [PerPort.get_set_ne _ hq])
  next => exact .inl rfl

theorem State.offerEach_feeds (s : State) (ps : List Port) {x : Notice}
    (plain : x.isReport = false) : s.Feeds (s.offerEach ps x) := by
  induction ps generalizing s with
  | nil => exact .refl s
  | cons p ps ih => exact (s.offer_feeds p plain).trans (ih _)

theorem State.changeLine_feeds (s : State) (new : LineState) (cause : LineCause) :
    s.Feeds (s.changeLine new cause) := by
  unfold State.changeLine
  exact (State.offerEach_feeds _ _ (by rfl)).from_eq rfl rfl

/-- Units taken or freed at an attached port's queue. -/
theorem State.reserve_feeds (s : State) {p : Port} (attached : s.isAttached p = true)
    {f : EventQueue → EventQueue}
    (hf : ∃ n, f (s.queues.get p) = { s.queues.get p with reserved := n }) :
    s.Feeds (s.onQueue p f) := by
  obtain ⟨n, hf⟩ := hf
  refine ⟨by simp, fun q => ?_⟩
  by_cases hq : q = p
  · subst hq
    exact .inr ⟨attached, by simpa [hf] using EventQueue.Fed.reserve _ n .refl⟩
  · exact .inl (by simp [PerPort.get_set_ne _ hq])

theorem State.postStationState_feeds (s : State) (e : StationEntry) (old : StationState)
    (new : NewState) : s.Feeds (s.postStationState e old new) := State.offerEach_feeds _ _ rfl

theorem State.changeStation_feeds (s : State) (a : Nat) (f : StationEntry → StationEntry) :
    s.Feeds (s.changeStation a f) := by
  rcases s.changeStation_cases a f with ⟨-, h⟩ | ⟨e, -, ⟨-, h⟩ | ⟨-, h⟩⟩
  · rw [h]; exact .refl s
  · rw [h]; exact .of_eq rfl rfl
  · rw [h]; exact (State.postStationState_feeds _ _ _ _).from_eq rfl rfl

theorem State.applyReport_feeds (s : State) (a : Nat) (r : StationReport) :
    s.Feeds (s.applyReport a r) := by
  rcases s.applyReport_cases a r with h | ⟨f, h⟩
  · rw [h]; exact .refl s
  · rw [h]; exact s.changeStation_feeds a f

theorem State.endRequest_feeds (s : State) (i : Nat) (status : CompletionStatus) :
    s.Feeds (s.endRequest i status) := by
  rcases s.endRequest_cases i status with ⟨-, h⟩ | ⟨p, r, -, h⟩ | ⟨r, -, h⟩
  · rw [h]; exact .refl s
  · rw [h]; exact (s.convert_feeds p (x := .completion (s.completionOf i r status)) rfl).to_eq (by simp) (by simp)
  · rw [h]; exact .of_eq (by simp) (by simp)

theorem State.endTransaction_feeds (s : State) : s.Feeds s.endTransaction := by
  rcases s.endTransaction_cases with ⟨-, h⟩ | ⟨-, h⟩
  · rw [h]; exact (State.changeLine_feeds _ _ _).from_eq (by simp) (by simp)
  · rw [h]; exact .of_eq (by simp) (by simp)

theorem State.finishRequest_feeds (s : State) (i : Nat) (status : CompletionStatus) :
    s.Feeds (s.finishRequest i status) :=
  (s.endRequest_feeds i status).trans (State.endTransaction_feeds _)

theorem State.endAttempt_feeds (s : State) (t : Transaction) (v : Verdict) :
    s.Feeds (s.endAttempt t v) := by
  rcases s.endAttempt_cases t v with ⟨i, status, -, h⟩ | h | ⟨i, q, r, -, -, -, h⟩
  · rw [h]; exact s.finishRequest_feeds i status
  · rw [h]; exact s.endTransaction_feeds
  · rw [h]; exact .of_eq (by simp) (by simp)

theorem State.resumeTransaction_feeds (s : State) : s.Feeds s.resumeTransaction := by
  rcases s.resumeTransaction_cases with h | ⟨t, -, ⟨-, h⟩ | ⟨-, h | ⟨i, -, h | ⟨q, r, -, -, h⟩⟩⟩⟩
  · rw [h]; exact .refl s
  · rw [h]; exact .of_eq (by simp) (by simp)
  · rw [h]; exact s.endTransaction_feeds
  · rw [h]; exact s.finishRequest_feeds i _
  · rw [h]; exact .of_eq (by simp) (by simp)

theorem State.cutTransaction_feeds (s : State) : s.Feeds s.cutTransaction := by
  unfold State.cutTransaction
  split
  · exact .refl s
  · split
    next i _ => exact (s.endRequest_feeds i .cut).to_eq (by simp) (by simp)
    · exact .of_eq (by simp) (by simp)

theorem State.endSweep_feeds (s : State) : s.Feeds s.endSweep := by
  unfold State.endSweep
  dsimp only
  split
  · exact (State.offer_feeds _ _ (by rfl)).from_eq rfl rfl
  · exact .of_eq rfl rfl

theorem State.sweepSearch_feeds (s : State) : s.Feeds s.sweepSearch := by
  unfold State.sweepSearch
  split
  · exact s.endSweep_feeds
  · exact .refl s

theorem State.select_feeds (s : State) : s.Feeds s.select := by
  unfold State.select
  split
  · refine State.choose_cases (fun u => s.Feeds u) (fun u => s.Feeds u) ?_ ?_ ?_ ?_ _ _ (by simp)
      s.sweepSearch_feeds
    · intro u p i q r h _ _ _
      exact h.trans ((State.endRequest_feeds _ _ _).from_eq (by simp) (by simp))
    · intro u a credit h _
      exact h.trans (.of_eq (by simp) (by simp))
    · intro u p i q r h _ _ _
      exact h.trans (.of_eq (by simp) (by simp))
    · intro u h _ _
      exact h
  · exact .refl s

theorem State.selectIf_feeds (s : State) (b : Bool) : s.Feeds (s.selectIf b) := by
  cases b with
  | false => exact .refl s
  | true => exact s.select_feeds

theorem State.passClaim_feeds (s : State) (c : ClaimRecord) : s.Feeds (s.passClaim c) := by
  unfold State.passClaim
  split
  · exact .of_eq rfl rfl
  · exact (State.convert_feeds _ _ (by rfl)).from_eq (by simp) (by simp)

theorem State.holderLeaves_feeds (s : State) (target : Nat) : s.Feeds (s.holderLeaves target) := by
  unfold State.holderLeaves
  split
  · exact .refl s
  · exact (s.passClaim_feeds _).trans (State.select_feeds _)

theorem State.expire_feeds (s : State) (target : Nat) : s.Feeds (s.expire target) := by
  rcases s.expire_cases target with ⟨-, h⟩ | ⟨c, -, h⟩
  · rw [h]; exact .refl s
  · rw [h]; exact (s.convert_feeds _ (by rfl)).trans (State.holderLeaves_feeds _ _)

@[simp] theorem State.expire_windows (s : State) (target : Nat) :
    (s.expire target).windows = s.windows := by
  rcases s.expire_cases target with ⟨-, h⟩ | ⟨c, -, h⟩
  · rw [h]
  · rw [h]; simp

theorem State.leaveClaims_feeds (s : State) (fuel : Nat) (p : Port) :
    s.Feeds (State.leaveClaims fuel p s) :=
  State.leaveClaims_induct (fun u => s.Feeds u) p (fun _ h => h.trans (.of_eq rfl rfl))
    (fun u target h => h.trans (u.holderLeaves_feeds target)) fuel s (.refl s)

/-! ### The teardown of a port -/

/-- The torn-down port's record ends its session, and no other record changes (R158, R164). -/
theorem State.tearDown_records (s : State) (p : Port) (cause : TeardownCause) :
    (s.tearDown p cause).records =
      s.records.set p
        { s.records.get p with session := .detached, timer := none, cause := cause } := by
  simp [State.tearDown, State.dropRequests, State.endSession, State.onRecord]

theorem State.tearDown_isAttached_self (s : State) (p : Port) (cause : TeardownCause) :
    (s.tearDown p cause).isAttached p = false := by
  simp [State.isAttached, State.tearDown_records]

theorem State.tearDown_get_ne (s : State) {p q : Port} (h : q ≠ p) (cause : TeardownCause) :
    (s.tearDown p cause).records.get q = s.records.get q := by
  rw [State.tearDown_records, PerPort.get_set_ne _ h]

/-- The queue of the torn-down port is flushed (R149). -/
@[simp] theorem State.tearDown_queue_self (s : State) (p : Port) (cause : TeardownCause) :
    (s.tearDown p cause).queues.get p = .reset := by
  simp [State.tearDown, State.flushQueue]

/-- The state in which a port that is torn down has ended its session and dropped its requests
(R164, steps 1 and 2). -/
def State.leaving (s : State) (p : Port) (cause : TeardownCause) : State :=
  (s.endSession p cause).dropRequests p

/-- The state in which it has handed on its claims and left the wait lists as well (step 3). -/
def State.left (s : State) (p : Port) (cause : TeardownCause) : State :=
  (State.leaveClaims ((s.leaving p cause).heldTargets p).length p (s.leaving p cause)).leaveWaits p

theorem State.tearDown_eq (s : State) (p : Port) (cause : TeardownCause) :
    s.tearDown p cause =
      (((s.left p cause).dropSubscriptions p).flushQueue p).dropRequester p := rfl

/-- The queues of the other ports are those that the hand-overs of the claims leave. -/
theorem State.tearDown_queue_ne (s : State) {p q : Port} (h : q ≠ p) (cause : TeardownCause) :
    (s.tearDown p cause).queues.get q = (s.left p cause).queues.get q := by
  simp [State.tearDown_eq, State.flushQueue, PerPort.get_set_ne _ h]

theorem State.left_feeds (s : State) (p : Port) (cause : TeardownCause) :
    (s.leaving p cause).Feeds (s.left p cause) :=
  (State.leaveClaims_feeds _ ((s.leaving p cause).heldTargets p).length p).to_eq
    (by simp [State.left]) (by simp [State.left])

@[simp] theorem State.leaving_queues (s : State) (p : Port) (cause : TeardownCause) :
    (s.leaving p cause).queues = s.queues := by simp [State.leaving]

theorem State.leaving_isAttached_ne (s : State) {p q : Port} (h : q ≠ p) (cause : TeardownCause) :
    (s.leaving p cause).isAttached q = s.isAttached q := by
  simp [State.leaving, State.isAttached, State.endSession, State.onRecord, PerPort.get_set_ne _ h]

theorem State.leaving_isAttached_self (s : State) (p : Port) (cause : TeardownCause) :
    (s.leaving p cause).isAttached p = false := by
  simp [State.leaving, State.isAttached, State.endSession, State.onRecord]

/-- The teardown of another port feeds a queue. -/
theorem State.tearDown_feeds_ne (s : State) {p q : Port} (h : q ≠ p) (cause : TeardownCause) :
    (s.tearDown p cause).queues.get q = s.queues.get q ∨
      (s.isAttached q = true ∧ (s.queues.get q).Fed ((s.tearDown p cause).queues.get q)) := by
  have fed := (s.left_feeds p cause).queues q
  rw [State.leaving_queues, State.leaving_isAttached_ne s h] at fed
  rw [State.tearDown_queue_ne s h]
  exact fed

/-! ### The tick -/

/-- A property that each expiry and each lapse that is due keeps, whatever the count of free choices,
holds after all of a tick's (R32, R162). -/
theorem State.finishTick_induct_due (P : State → Prop)
    (picks : ∀ s, P s → P (s.withPicks (s.picks + 1)))
    (ends : ∀ s x, x ∈ s.tickEnds → P s → P (s.takeEnd x)) (fuel : Nat) (s : State) (h : P s) :
    P (State.finishTick fuel s) := by
  induction fuel generalizing s with
  | zero => exact h
  | succ fuel ih =>
    unfold State.finishTick
    split
    · exact h
    next x hx => exact ends s x (by simp [hx]) h
    next x y rest hx =>
      refine ih _ (ends _ _ ?_ (picks _ h))
      have same : (s.withPicks (s.picks + 1)).tickEnds = s.tickEnds := rfl
      rw [same, hx]
      have inside : Config.tickPick s.picks % (x :: y :: rest).length < (x :: y :: rest).length :=
        Nat.mod_lt _ (by simp)
      rw [List.getD_eq_getElem _ _ inside]
      exact List.getElem_mem inside

/-- A port's timer is in its last millisecond where a tick's lapse is due. -/
theorem State.tickEnds_lapse {s : State} {p : Port} (h : TickEnd.lapse p ∈ s.tickEnds) :
    s.isAttached p = true ∧ (s.records.get p).timer = some 0 := by
  rcases (State.mem_tickEnds s _).1 h with ⟨_, _, _, h⟩ | ⟨q, ha, ht, h⟩
  · cases h
  · cases h
    exact ⟨ha, ht⟩

/-- What the tick does to a port's record: it is counted down, and its session ends where its timer was
in its last millisecond (R162). -/
theorem State.finishTick_record (s : State) (fuel : Nat) (p : Port) :
    (State.finishTick fuel s.countDown).records.get p = s.countDown.records.get p ∨
      ((∃ n ∈ (s.records.get p).timer, n ≤ 1) ∧
        (State.finishTick fuel s.countDown).records.get p =
          { s.countDown.records.get p with session := .detached, timer := none, cause := .lapse }) := by
  refine State.finishTick_induct_due
    (fun u => u.records.get p = s.countDown.records.get p ∨
      ((∃ n ∈ (s.records.get p).timer, n ≤ 1) ∧
        u.records.get p =
          { s.countDown.records.get p with session := .detached, timer := none, cause := .lapse }))
    (fun u h => h) ?_ fuel _ (.inl rfl)
  intro u x due h
  cases x with
  | expiry target => rwa [State.takeEnd, (u.expire_feeds target).records]
  | lapse q =>
    by_cases hq : p = q
    · subst hq
      obtain ⟨attached, timer⟩ := State.tickEnds_lapse due
      rcases h with h | ⟨hn, h⟩
      · refine .inr ⟨?_, by rw [State.takeEnd, State.tearDown_records, PerPort.get_set_self, h]⟩
        rw [h, State.countDown_get] at timer
        split at timer
        · exact ⟨0, timer, by omega⟩
        · obtain ⟨n, hn, h0⟩ := Option.map_eq_some_iff.1 timer
          exact ⟨n, hn, by omega⟩
      · rw [h] at timer
        cases timer
    · rwa [State.takeEnd, State.tearDown_get_ne u hq]

/-- The queue of a port through a tick is fed, or flushed by the port's own lapse. -/
theorem State.finishTick_queue (s : State) (fuel : Nat) (p : Port) :
    (∃ new, ((State.finishTick fuel s).queues.get p).notices = (s.queues.get p).notices ++ new) ∨
      ((State.finishTick fuel s).isAttached p = false ∧
        (State.finishTick fuel s).queues.get p = .reset) := by
  refine State.finishTick_induct_due
    (fun u => (∃ new, (u.queues.get p).notices = (s.queues.get p).notices ++ new) ∨
      (u.isAttached p = false ∧ u.queues.get p = .reset)) (fun u h => h) ?_ fuel _
    (.inl ⟨[], by simp⟩)
  have grow : ∀ {u v : State}, v.isAttached p = u.isAttached p →
      (v.queues.get p = u.queues.get p ∨
        (u.isAttached p = true ∧ (u.queues.get p).Fed (v.queues.get p))) →
      ((∃ new, (u.queues.get p).notices = (s.queues.get p).notices ++ new) ∨
        (u.isAttached p = false ∧ u.queues.get p = .reset)) →
      (∃ new, (v.queues.get p).notices = (s.queues.get p).notices ++ new) ∨
        (v.isAttached p = false ∧ v.queues.get p = .reset) := by
    intro u v same feeds h
    rw [same]
    rcases feeds with eq | ⟨attached, fed⟩
    · rwa [eq]
    · obtain ⟨more, heq, -⟩ := fed.notices
      rcases h with ⟨new, h⟩ | ⟨detached, -⟩
      · exact .inl ⟨new ++ more, by rw [heq, h, List.append_assoc]⟩
      · rw [attached] at detached; cases detached
  intro u x _ h
  cases x with
  | expiry target =>
    exact grow ((u.expire_feeds target).isAttached p) ((u.expire_feeds target).queues p) h
  | lapse q =>
    by_cases hq : p = q
    · subst hq
      exact .inr ⟨u.tearDown_isAttached_self p _, u.tearDown_queue_self p _⟩
    · refine grow ?_ (u.tearDown_feeds_ne hq _) h
      simp [State.takeEnd, State.isAttached, u.tearDown_get_ne hq]

/-! ### Deliveries -/

/-- A delivery adds notices at the end of the queues, and keeps the records. -/
theorem State.offerReport_appends (s : State) (subs : List Subscription) (r : ReportNotice)
    (p : Port) :
    ∃ new, ((s.offerReport subs r).queues.get p).notices = (s.queues.get p).notices ++ new := by
  induction subs generalizing s with
  | nil => exact ⟨[], by simp [State.offerReport]⟩
  | cons x subs ih =>
    obtain ⟨new, h⟩ := ih (s.offer x.port (.report { r with gap := x.gap }))
    simp only [State.offerReport, List.foldl_cons] at h ⊢
    rw [h, State.offer_queue]
    split
    next hp =>
      obtain ⟨rfl, -⟩ := hp
      rcases (s.queues.get x.port).offer_notices (.report { r with gap := x.gap }) with h | h
      · exact ⟨new, by rw [h]⟩
      · exact ⟨[_] ++ new, by rw [h, List.append_assoc]⟩
    next => exact ⟨new, rfl⟩

theorem State.judgeReport_appends (s : State) (a : Nat) (sBit : Bool) (payload : List Byte)
    (noise : Bool) (p : Port) :
    ∃ new, ((s.judgeReport a sBit payload noise).queues.get p).notices =
      (s.queues.get p).notices ++ new := by
  rcases s.judgeReport_cases a sBit payload noise with h | ⟨e, -, h | h | ⟨i, -, h⟩⟩
  · exact ⟨[], by simp [h]⟩
  · exact ⟨[], by simp [h]⟩
  · exact ⟨[], by simp [h]⟩
  · rw [h]
    simpa [State.deliverReport] using s.offerReport_appends e.subscribers
      { station := e.address, buffer := i, length := payload.length, noise := noise, gap := false } p

/-- The end of an exchange adds notices at the end of the queues. -/
theorem State.endExchange_appends (s : State) (result : ExchangeResult) (p : Port) :
    ∃ new, ((s.endExchange result).queues.get p).notices = (s.queues.get p).notices ++ new := by
  unfold State.endExchange
  dsimp only
  split
  · exact ⟨[], by simp⟩
  next t _ =>
    generalize hu : s.withEngine s.engine.enterGap = u
    have hq : u.queues = s.queues := by rw [← hu]; rfl
    obtain ⟨j, v, -, hv, h⟩ := u.handResult_cases t (s.engine.exchange.any Frame.sBit) result
    have first : ∃ new, (v.queues.get p).notices = (s.queues.get p).notices ++ new := by
      obtain ⟨new, h1⟩ := (u.applyReport_feeds t.station j.report).appends p
      rw [hv, (State.writeSource_frame ..).2.2.2.2.2.1, ← hq]
      cases hs : j.store with
      | none => exact ⟨new, h1⟩
      | some x =>
        obtain ⟨more, h2⟩ :=
          (u.applyReport t.station j.report).judgeReport_appends t.station x.1 x.2.1 x.2.2 p
        exact ⟨new ++ more, by rw [← List.append_assoc, ← h1]; exact h2⟩
    obtain ⟨new, hnew⟩ := first
    have feeds : v.Feeds (u.handResult t (s.engine.exchange.any Frame.sBit) result) := by
      rcases h with ⟨-, -, h⟩ | h
      · rw [h]; exact .of_eq (by simp) (by simp)
      · rw [h]; exact v.endAttempt_feeds t _
    obtain ⟨more, hmore⟩ := feeds.appends p
    exact ⟨new ++ more, by rw [hmore, hnew, List.append_assoc]⟩

end

/-! ### The statements about queues and ports -/

section
variable {c : Instr} {s t : State}

/-- Every act but a NEXT_EVENT, an ATTACH and a teardown feeds the queues. -/
theorem Act.feeds {p : Port} (h : Act c p s t) :
    s.Feeds t ∨ (∃ body, c = .nextEvent p body ∧ t = s.removeNotice p) ∨
      (∃ body lapse, c = .attach p body ∧ t = (s.onRecord p (·.attach lapse)).timerSet p) ∨
      ∃ body, c = .detach p body ∧ t = s.tearDown p .detach := by
  cases h with
  | nothing => exact .inl (.refl s)
  | attach body lapse command => exact .inr (.inr (.inl ⟨body, lapse, command, rfl⟩))
  | detach body command => exact .inr (.inr (.inr ⟨body, command, rfl⟩))
  | nextEvent body command => exact .inr (.inl ⟨body, command, rfl⟩)
  | enroll a poll => exact .inl ((State.selectIf_feeds _ _).from_eq rfl rfl)
  | dismiss e => exact .inl ((s.postStationState_feeds e _ _).to_eq rfl rfl)
  | setStation e poll => exact .inl ((State.selectIf_feeds _ _).from_eq rfl rfl)
  | subscribe => exact .inl (.of_eq rfl rfl)
  | unsubscribe => exact .inl (.of_eq rfl rfl)
  | grant k d _ _ attached =>
    exact .inl ((State.reserve_feeds _ (by simpa [State.isAttached] using attached)
      ⟨_, rfl⟩).from_eq (by simp) (by simp))
  | wait k d _ attached =>
    exact .inl ((State.reserve_feeds _ (by simpa [State.isAttached] using attached)
      ⟨_, rfl⟩).from_eq (by simp) (by simp))
  | renew k d => exact .inl (.of_eq (by rw [State.renewClaim_eq]) (by rw [State.renewClaim_eq]))
  | release k attached =>
    exact .inl ((s.reserve_feeds attached ⟨_, rfl⟩).trans (State.holderLeaves_feeds _ _))
  | submit i r _ attached =>
    refine .inl (State.Feeds.trans ?_ (State.select_feeds _))
    unfold State.fillSlot
    exact (State.reserve_feeds _ (by simpa [State.isAttached] using attached)
      ⟨_, rfl⟩).from_eq (by simp) (by simp)
  | cancelPending i =>
    exact .inl ((State.endRequest_feeds _ _ _).from_eq (by simp) (by simp))
  | cancelActive => exact .inl (.of_eq (by simp) (by simp))
  | start => exact .inl ((s.changeLine_feeds _ _).trans (State.select_feeds _))
  | halt => exact .inl (s.changeLine_feeds _ _)
  | drain => exact .inl (.of_eq rfl rfl)
  | cut =>
    exact .inl (s.cutTransaction_feeds.trans ((State.changeLine_feeds _ _ _).from_eq rfl rfl))
  | cutStopped => exact .inl (s.cutTransaction_feeds.to_eq rfl rfl)
  | sweepOff => exact .inl (.of_eq rfl rfl)
  | sweepOn => exact .inl ((State.select_feeds _).from_eq rfl rfl)
  | configure => exact .inl (.of_eq rfl rfl)
  | stage => exact .inl (.of_eq rfl rfl)

/-- NEXT_EVENT takes the oldest notice of its own port, and no notice of another (R145). -/
theorem State.removeNotice_notices (s : State) (p q : Port) :
    ((s.removeNotice p).queues.get q).notices =
      if q = p then (s.queues.get p).notices.tail else (s.queues.get q).notices := by
  unfold State.removeNotice
  split <;> by_cases hq : q = p <;> simp [PerPort.get_set, hq, EventQueue.next]

/-- Settles O59: acts feed the queues, and NEXT_EVENT, deliveries, ticks and teardowns do to them
what the statement says. -/
theorem queuesAreFirstInFirstOut : Obligations.QueuesAreFirstInFirstOut := by
  intro c s t p notReset h
  have same : ∀ {u : State}, u.queues = s.queues →
      ∃ new, (u.queues.get p).notices = (s.queues.get p).notices ++ new :=
    fun h => ⟨[], by simp [h]⟩
  cases exec_happens h with
  | nothing => exact .inl (same rfl)
  | packet q code body u r command receives act =>
    rw [(State.setWindow_frame ..).2.2.2.2.1]
    rcases act.feeds with feeds | ⟨body, hc, rfl⟩ | ⟨body, lapse, hc, rfl⟩ | ⟨body, hc, rfl⟩
    · exact .inl (feeds.appends p)
    · by_cases hp : p = q
      · exact .inr (.inl ⟨body, hp ▸ hc, by simp [State.removeNotice_notices, hp]⟩)
      · exact .inl ⟨[], by simp [State.removeNotice_notices, hp]⟩
    · exact .inl (same (by simp))
    · by_cases hp : p = q
      · subst hp
        refine .inr (.inr ⟨.inr (.inr ⟨body, hc⟩), ?_, by simp [EventQueue.reset]⟩)
        have detached := (s.heard p).tearDown_isAttached_self p .detach
        rwa [State.isAttached_congr ((State.setWindow_frame ..).2.2.2.1)]
      · rcases (s.heard q).tearDown_feeds_ne hp .detach with eq | ⟨-, fed⟩
        · exact .inl ⟨[], by simp [eq]⟩
        · obtain ⟨new, heq, -⟩ := fed.notices
          exact .inl ⟨new, heq⟩
  | window => exact .inl (same (by simp))
  | fragment => exact .inl (same (by simp))
  | tick command =>
    rcases State.finishTick_queue s.countDown s.countDown.tickEnds.length p with fed | ⟨ha, hq⟩
    · exact .inl fed
    · exact .inr (.inr ⟨.inr (.inl command), ha, by rw [hq]; rfl⟩)
  | expiry k =>
    obtain ⟨new, h⟩ := ((s.reachClaim k.target).expire_feeds k.target).appends p
    exact .inl ⟨new, by simpa using h⟩
  | lapse q command =>
    by_cases hp : p = q
    · subst hp
      exact .inr (.inr ⟨.inl command, State.tearDown_isAttached_self .., by simp [EventQueue.reset]⟩)
    · rcases (s.reachPort q).tearDown_feeds_ne hp .lapse with eq | ⟨-, fed⟩
      · exact .inl ⟨[], by simp [eq]⟩
      · obtain ⟨new, heq, -⟩ := fed.notices
        exact .inl ⟨new, by simpa using heq⟩
  | reset command => exact absurd command notReset
  | resetEnds => exact .inl (same rfl)
  | engine => exact .inl (same rfl)
  | ends e result =>
    obtain ⟨new, h⟩ := (s.withEngine e).endExchange_appends result p
    exact .inl ⟨new, h⟩
  | gapEnd =>
    obtain ⟨new, h⟩ :=
      ((State.resumeTransaction_feeds _).trans (State.select_feeds _)).appends p
    exact .inl ⟨new, h⟩

/-- Hearing a packet leaves every session as it is (R162). -/
theorem State.heard_session (s : State) (p q : Port) :
    ((s.heard p).records.get q).session = (s.records.get q).session := by
  simp only [State.heard, PerPort.get_set]
  split
  next hq => subst hq; split <;> rfl
  next => rfl

/-- The windows are the hosts' own: no act touches one. -/
theorem Act.windows {p : Port} (h : Act c p s t) : t.windows = s.windows := by
  cases h <;> simp [State.renewClaim_eq]

/-- Settles O60: an act changes the session of its own port alone, and only an ATTACH or a DETACH
does, while a tick ends the sessions whose timer was in its last millisecond. -/
theorem portsAreIndependent : Obligations.PortsAreIndependent := by
  intro c s t p h
  cases exec_happens h with
  | nothing => exact ⟨fun h => absurd rfl h, fun h => absurd rfl h⟩
  | packet q code body u r command receives act =>
    constructor
    · intro changed
      rw [(State.setWindow_frame ..).2.2.2.1, ← s.heard_session q p] at changed
      rcases act.feeds with feeds | ⟨body, hc, rfl⟩ | ⟨body, lapse, hc, rfl⟩ | ⟨body, hc, rfl⟩
      · exact absurd (by rw [feeds.records]) changed
      · exact absurd (by simp) changed
      · by_cases hp : p = q
        · exact .inr (.inr (.inl ⟨body, hp ▸ hc⟩))
        · exact absurd (by simp [State.onRecord, PerPort.get_set_ne _ hp]) changed
      · by_cases hp : p = q
        · exact .inr (.inr (.inr (.inl ⟨body, hp ▸ hc⟩)))
        · exact absurd (by rw [State.tearDown_get_ne _ hp]) changed
    · intro changed
      by_cases hp : p = q
      · exact .inr (.inr (.inr (.inr (.inr ⟨code, body, hp ▸ command⟩))))
      · exact absurd (by simp [State.setWindow, PerPort.get_set_ne _ hp, act.windows]) changed
  | window q w command =>
    refine ⟨fun changed => absurd (by simp) changed, fun changed => ?_⟩
    by_cases hp : p = q
    · subst hp
      rcases command with h | h | h | h
      · exact .inr (.inl h)
      · exact .inr (.inr (.inl h))
      · exact .inr (.inr (.inr (.inl h)))
      · exact .inr (.inr (.inr (.inr (.inl h))))
    · exact absurd (by simp [State.setWindow, PerPort.get_set_ne _ hp]) changed
  | fragment q bytes command =>
    constructor
    · intro changed
      refine absurd ?_ changed
      by_cases hp : p = q
      · simp [State.onRecord, hp]
      · simp [State.onRecord, PerPort.get_set_ne _ hp]
    · intro changed
      by_cases hp : p = q
      · exact .inr (.inr (.inr (.inr (.inl ⟨bytes, hp ▸ command⟩))))
      · exact absurd (by simp [State.setWindow, PerPort.get_set_ne _ hp]) changed
  | tick command =>
    constructor
    · intro changed
      rcases s.finishTick_record s.countDown.tickEnds.length p with same | ⟨ending, -⟩
      · rw [same, State.countDown_get] at changed
        exact absurd (by split <;> rfl) changed
      · exact .inr (.inr (.inr (.inr ⟨command, ending⟩)))
    · intro changed
      refine absurd ?_ changed
      have kept := State.finishTick_induct (fun u => u.windows = s.windows) (fun _ h => h)
        (fun u x h => by cases x <;> simp [State.takeEnd, State.expire_windows, h])
        s.countDown.tickEnds.length s.countDown rfl
      rw [kept]
  | expiry k =>
    refine ⟨fun changed => absurd ?_ changed, fun changed => absurd ?_ changed⟩
    · rw [(State.expire_feeds _ _).records]; simp
    · rw [State.expire_windows]; simp
  | lapse q command =>
    refine ⟨fun changed => ?_, fun changed => absurd (by simp) changed⟩
    by_cases hp : p = q
    · exact .inr (.inl (hp ▸ command))
    · exact absurd (by simp [State.tearDown_get_ne _ hp]) changed
  | reset command => exact ⟨fun _ => .inl command, fun _ => .inl command⟩
  | resetEnds => exact ⟨fun h => absurd rfl h, fun h => absurd rfl h⟩
  | engine => exact ⟨fun h => absurd rfl h, fun h => absurd rfl h⟩
  | ends => exact ⟨fun h => absurd (by simp) h, fun h => absurd (by simp) h⟩
  | gapEnd => exact ⟨fun h => absurd (by simp) h, fun h => absurd (by simp) h⟩

end

end Sys2Proof.Machine

/-! The Claim Table: what a hand-over, a teardown and a tick make of the records, and that a tick leaves
nothing at 0. -/

namespace Sys2Proof.Machine

/-! ### Rising tables -/

section
variable {α : Type} {key : α → Nat} {t : List α}

/-- In a rising table a key stands once. -/
theorem Rising.eq_of_key (h : Rising key t) {x y : α} (hx : x ∈ t) (hy : y ∈ t)
    (hk : key x = key y) : x = y := by
  have h1 := tableFind_of_mem h hx
  rw [hk, tableFind_of_mem h hy] at h1
  exact (Option.some.inj h1).symm

/-- A put at a key that stands replaces the entry in its place. -/
theorem tablePut_eq_map (h : Rising key t) {x y : α} (hy : y ∈ t) (hk : key y = key x) :
    tablePut key x t = t.map (fun z => if key z = key x then x else z) := by
  induction t with
  | nil => cases hy
  | cons z t ih =>
    obtain ⟨hz, ht⟩ := List.pairwise_cons.1 h
    simp only [tablePut, List.map_cons]
    rcases List.mem_cons.1 hy with rfl | hy
    · have rest : t.map (fun z => if key z = key x then x else z) = t := by
        exact List.map_congr_left (g := id) (fun w hw => if_neg (by have := hz w hw; omega)) |>.trans (List.map_id t)
      simp [hk, rest]
    · have := hz y hy
      have h1 : ¬ key x < key z := by omega
      have h2 : ¬ key x = key z := by omega
      simp [h1, h2, Ne.symm h2, ih ht hy]

/-- A drop of the key of an entry takes that entry away and no other. -/
theorem tableDrop_eq_filterMap (k : Nat) (t : List α) :
    tableDrop key k t = t.filterMap (fun z => if key z = k then none else some z) := by
  rw [tableDrop, ← List.filterMap_eq_filter]
  refine List.filterMap_congr fun z _ => ?_
  by_cases h : key z = k <;> simp [h, Option.guard]

end

/-! ### Records and waiters -/

/-- A claim record but for the time that a tick in progress has brought to 0: the ranges of Table 2-1
(R22, R23). -/
abbrev ClaimRecord.Shape (c : ClaimRecord) : Prop :=
  c.target ≤ 126 ∧ c.remaining ≤ 60000 ∧ c.waiters.length ≤ 3 ∧
  (c.waiters.map Waiter.port).Nodup ∧ (∀ w ∈ c.waiters, w.port ≠ c.holder) ∧
  ∀ w ∈ c.waiters, 1 ≤ w.duration ∧ w.duration ≤ 60000

/-- The Claim Table at any moment of a tick (R22). -/
structure State.ClaimsShape (s : State) : Prop where
  length : s.claims.length ≤ 16
  rising : Rising ClaimRecord.target s.claims
  each : ∀ c ∈ s.claims, c.Shape

theorem State.claimsOk_iff (s : State) :
    s.ClaimsOk ↔ s.ClaimsShape ∧ ∀ c ∈ s.claims, 1 ≤ c.remaining := by
  constructor
  · rintro ⟨length, rising, each⟩
    refine ⟨⟨length, rising, fun c hc => ?_⟩, fun c hc => ?_⟩
    · obtain ⟨target, ⟨-, time⟩, rest⟩ := each c hc
      exact ⟨target, time, rest⟩
    · exact (each c hc).2.1.1
  · rintro ⟨⟨length, rising, each⟩, positive⟩
    refine ⟨length, rising, fun c hc => ?_⟩
    obtain ⟨target, time, rest⟩ := each c hc
    exact ⟨target, ⟨positive c hc, time⟩, rest⟩

/-- What becomes of a record whose holder leaves: its first waiter holds it for the whole of the
duration it asked for, or it is freed (R33). -/
def ClaimRecord.passedOn (c : ClaimRecord) : Option ClaimRecord :=
  match c.waiters with
  | [] => none
  | w :: rest => some { c with holder := w.port, remaining := w.duration, waiters := rest }

/-- A record handed on keeps its target and its shape, counts from 1 ms up, and its new holder is
another port. -/
theorem ClaimRecord.passedOn_some {c d : ClaimRecord} (h : c.passedOn = some d) (ok : c.Shape) :
    d.target = c.target ∧ d.Shape ∧ 1 ≤ d.remaining ∧ d.holder ≠ c.holder ∧
      ∀ w ∈ d.waiters, w.port ≠ c.holder := by
  obtain ⟨target, -, length, nodup, others, durations⟩ := ok
  unfold ClaimRecord.passedOn at h
  split at h
  · cases h
  next w rest hw =>
    cases h
    rw [hw] at length nodup others durations
    simp only [List.map_cons, List.nodup_cons, List.mem_map, not_exists, not_and] at nodup
    obtain ⟨low, high⟩ := durations w (by simp)
    refine ⟨rfl, ⟨target, high, ?_, nodup.2, fun v hv => nodup.1 v hv,
      fun v hv => durations v (by simp [hv])⟩, low, others w (by simp),
      fun v hv => others v (by simp [hv])⟩
    simp at length ⊢
    omega

/-- What becomes of each record where the holder of one target leaves. -/
def ClaimRecord.passedAt (target : Nat) (c : ClaimRecord) : Option ClaimRecord :=
  if c.target = target then c.passedOn else some c

/-! ### The hand-over of one claim -/

section
variable {s : State}

/-- The claims after a hand-over (R33). -/
theorem State.passClaim_claims (rising : Rising ClaimRecord.target s.claims) {c : ClaimRecord}
    (mem : c ∈ s.claims) :
    (s.passClaim c).claims = s.claims.filterMap (ClaimRecord.passedAt c.target) := by
  have only : ∀ x ∈ s.claims, x.target = c.target → x = c :=
    fun x hx hk => rising.eq_of_key hx mem hk
  unfold State.passClaim
  cases hw : c.waiters with
  | nil =>
    simp only [State.withClaims_claims, tableDrop_eq_filterMap]
    refine List.filterMap_congr fun x hx => ?_
    by_cases hk : x.target = c.target
    · simp [ClaimRecord.passedAt, only x hx hk, ClaimRecord.passedOn, hw]
    · simp [ClaimRecord.passedAt, hk]
  | cons w rest =>
    simp only [State.convert_frame, State.claimSet_frame, State.putClaim, State.withClaims_claims]
    rw [tablePut_eq_map (x := { c with holder := w.port, remaining := w.duration, waiters := rest })
      rising mem rfl, ← List.filterMap_eq_map]
    refine List.filterMap_congr fun x hx => ?_
    by_cases hk : x.target = c.target
    · simp [ClaimRecord.passedAt, only x hx hk, ClaimRecord.passedOn, hw]
    · simp [ClaimRecord.passedAt, hk]

/-- The claims after the holder of a target leaves (R33). -/
theorem State.holderLeaves_claims (rising : Rising ClaimRecord.target s.claims) (target : Nat) :
    (s.holderLeaves target).claims = s.claims.filterMap (ClaimRecord.passedAt target) := by
  unfold State.holderLeaves
  split
  next none =>
    rw [State.claim?_none] at none
    symm
    rw [← List.filterMap_some (l := s.claims)]
    rw [List.filterMap_some]
    exact List.filterMap_congr (g := some) (fun x hx => by
      simp [ClaimRecord.passedAt, none x hx]) |>.trans (List.filterMap_some)
  next c found =>
    obtain ⟨mem, rfl⟩ := State.claim?_some found
    rw [(State.select_frame _).2.2.2.2.2.2.1, State.passClaim_claims rising mem]

/-- Records filtered and handed on stand in the shape of a table. -/
theorem State.ClaimsShape.filterMap (h : s.ClaimsShape) {t : State}
    {f : ClaimRecord → Option ClaimRecord} (eq : t.claims = s.claims.filterMap f)
    (keeps : ∀ c ∈ s.claims, ∀ d, f c = some d → d.target = c.target ∧ d.Shape) :
    t.ClaimsShape := by
  refine ⟨eq ▸ (List.length_filterMap_le ..).trans h.length, ?_, fun d hd => ?_⟩
  · rw [eq, Rising, List.pairwise_filterMap]
    refine h.rising.imp_of_mem fun {x y} hx hy lt a ha b hb => ?_
    rw [(keeps x hx a ha).1, (keeps y hy b hb).1]
    exact lt
  · rw [eq, List.mem_filterMap] at hd
    obtain ⟨c, hc, hf⟩ := hd
    exact (keeps c hc d hf).2

theorem State.ClaimsShape.of_eq (h : s.ClaimsShape) {t : State} (eq : t.claims = s.claims) :
    t.ClaimsShape := ⟨eq ▸ h.length, eq ▸ h.rising, eq ▸ h.each⟩

theorem ClaimRecord.passedAt_some {c d : ClaimRecord} {target : Nat}
    (h : c.passedAt target = some d) (ok : c.Shape) : d.target = c.target ∧ d.Shape := by
  unfold ClaimRecord.passedAt at h
  split at h
  · exact ⟨(ClaimRecord.passedOn_some h ok).1, (ClaimRecord.passedOn_some h ok).2.1⟩
  · cases h
    exact ⟨rfl, ok⟩

theorem State.ClaimsShape.holderLeaves (h : s.ClaimsShape) (target : Nat) :
    (s.holderLeaves target).ClaimsShape :=
  h.filterMap (State.holderLeaves_claims h.rising target)
    fun c hc _ hd => ClaimRecord.passedAt_some hd (h.each c hc)

/-! ### The claims of a torn-down port (R37, R38) -/

/-- What becomes of each record where a port leaves the claims it holds. -/
def ClaimRecord.passedBy (p : Port) (c : ClaimRecord) : Option ClaimRecord :=
  if c.holder = p then c.passedOn else some c

/-- To hand on the records of a port one after the other is to hand them all on. -/
theorem State.passedBy_after_passedAt (h : s.ClaimsShape) (p : Port) {c : ClaimRecord}
    (mem : c ∈ s.claims) (holder : c.holder = p) :
    (s.claims.filterMap (ClaimRecord.passedAt c.target)).filterMap (ClaimRecord.passedBy p) =
      s.claims.filterMap (ClaimRecord.passedBy p) := by
  rw [List.filterMap_filterMap]
  refine List.filterMap_congr fun x hx => ?_
  by_cases hk : x.target = c.target
  · obtain rfl := h.rising.eq_of_key hx mem hk
    simp only [ClaimRecord.passedAt, ClaimRecord.passedBy, if_true, holder]
    cases hp : x.passedOn with
    | none => rfl
    | some d =>
      have := (ClaimRecord.passedOn_some hp (h.each x hx)).2.2.2.1
      simp [ClaimRecord.passedBy, ← holder, this]
  · simp [ClaimRecord.passedAt, hk]

theorem State.heldTargets_length (s : State) (p : Port) :
    (s.heldTargets p).length = s.claims.countP (fun c => decide (c.holder = p)) := by
  simp [State.heldTargets, List.countP_eq_length_filter]

theorem State.mem_heldTargets (s : State) (p : Port) (t : Nat) :
    t ∈ s.heldTargets p ↔ ∃ c ∈ s.claims, c.holder = p ∧ c.target = t := by
  simp [State.heldTargets, and_assoc]

/-- A hand-over takes one record from its holder, and gives it to another port. -/
theorem State.held_after_passedAt (h : s.ClaimsShape) {c : ClaimRecord} (mem : c ∈ s.claims) :
    (s.claims.filterMap (ClaimRecord.passedAt c.target)).countP
        (fun d => decide (d.holder = c.holder)) + 1 =
      s.claims.countP (fun d => decide (d.holder = c.holder)) := by
  obtain ⟨l, r, hlr⟩ := List.append_of_mem mem
  have each := h.each
  have rising := h.rising
  rw [hlr] at each rising ⊢
  have others : ∀ x, x ∈ l ∨ x ∈ r → ClaimRecord.passedAt c.target x = some x := by
    intro x hx
    rw [Rising, List.pairwise_append, List.pairwise_cons] at rising
    obtain ⟨-, ⟨hr, -⟩, hl⟩ := rising
    have : x.target ≠ c.target := by
      rcases hx with hx | hx
      · exact Nat.ne_of_lt (hl x hx c (by simp))
      · exact Ne.symm (Nat.ne_of_lt (hr x hx))
    simp [ClaimRecord.passedAt, this]
  have keep : ∀ m : List ClaimRecord, (∀ x ∈ m, x ∈ l ∨ x ∈ r) →
      m.filterMap (ClaimRecord.passedAt c.target) = m := by
    intro m hm
    exact List.filterMap_congr (g := some) (fun x hx => others x (hm x hx)) |>.trans
      List.filterMap_some
  rw [List.filterMap_append, List.filterMap_cons, keep l (fun x hx => .inl hx),
    keep r (fun x hx => .inr hx)]
  have self : ClaimRecord.passedAt c.target c = c.passedOn := by simp [ClaimRecord.passedAt]
  rw [self]
  cases hp : c.passedOn with
  | none => simp; omega
  | some d =>
    have := (ClaimRecord.passedOn_some hp (each c (by simp))).2.2.2.1
    simp [this]; omega

/-- One of several things named by a free value is one of them. -/
theorem getD_mod_mem {α : Type} (n : Nat) (l : List α) (x : α) (h : l ≠ []) :
    l.getD (n % l.length) x ∈ l := by
  have inside : n % l.length < l.length := Nat.mod_lt _ (List.length_pos_iff.2 h)
  rw [List.getD_eq_getElem _ _ inside]
  exact List.getElem_mem inside

/-- A property that the hand-over of each claim of the port keeps, in a state whose Claim Table is
in shape, holds after all of them; and by then the claims it held have all been handed on (R37). -/
theorem State.leaveClaims_all (P : State → Prop) (p : Port)
    (picks : ∀ s, P s → P (s.withPicks (s.picks + 1)))
    (leaves : ∀ s c, s.ClaimsShape → s.claim? c.target = some c → c.holder = p → P s →
      P (s.holderLeaves c.target))
    (n : Nat) (s : State) (shape : s.ClaimsShape)
    (hn : s.claims.countP (fun c => decide (c.holder = p)) = n) (h : P s) :
    P (State.leaveClaims n p s) ∧
      (State.leaveClaims n p s).claims = s.claims.filterMap (ClaimRecord.passedBy p) := by
  induction n generalizing s with
  | zero =>
    refine ⟨h, ?_⟩
    rw [List.countP_eq_zero] at hn
    symm
    exact List.filterMap_congr (g := some) (fun x hx => by
      have := hn x hx
      simp at this
      simp [ClaimRecord.passedBy, this]) |>.trans List.filterMap_some
  | succ n ih =>
    have one : ∀ u : State, u.claims = s.claims → P u → ∀ t ∈ s.heldTargets p,
        P (State.leaveClaims n p (u.holderLeaves t)) ∧
          (State.leaveClaims n p (u.holderLeaves t)).claims =
            s.claims.filterMap (ClaimRecord.passedBy p) := by
      intro u same hu t ht
      obtain ⟨c, mem, holder, rfl⟩ := (s.mem_heldTargets p t).1 ht
      have ushape := shape.of_eq same
      have eq := State.holderLeaves_claims ushape.rising c.target
      rw [same] at eq
      have found : u.claim? c.target = some c := by
        unfold State.claim?
        rw [same]
        exact tableFind_of_mem shape.rising mem
      have count := State.held_after_passedAt shape mem
      rw [holder, hn] at count
      have next := ih (u.holderLeaves c.target) (ushape.holderLeaves c.target)
        (by rw [eq]; omega) (leaves u c ushape found holder hu)
      refine ⟨next.1, next.2.trans ?_⟩
      rw [eq, State.passedBy_after_passedAt shape p mem holder]
    have some' : s.heldTargets p ≠ [] := by
      intro hnil
      have := s.heldTargets_length p
      rw [hnil, hn] at this
      cases this
    unfold State.leaveClaims
    split
    next hnil => exact absurd hnil some'
    next t ht =>
      have last : n = 0 := by
        have := s.heldTargets_length p
        rw [ht, hn] at this
        simpa using this.symm
      have := one s rfl h t (by simp [ht])
      rw [last] at this
      exact this
    next t u rest ht =>
      exact one (s.withPicks (s.picks + 1)) rfl (picks s h) _
        (by rw [ht]; exact getD_mod_mem _ _ _ (by simp))

/-- What becomes of each record in the teardown of a port (R37, R38). -/
def ClaimRecord.tornFrom (p : Port) (c : ClaimRecord) : Option ClaimRecord :=
  if c.holder = p then c.passedOn
  else some { c with waiters := c.waiters.filter (fun w => decide (w.port ≠ p)) }

@[simp] theorem State.leaving_claims (s : State) (p : Port) (cause : TeardownCause) :
    (s.leaving p cause).claims = s.claims := by simp [State.leaving]

/-- The claims that a teardown leaves (R37, R38). -/
theorem State.left_claims (h : s.ClaimsShape) (p : Port) (cause : TeardownCause) :
    (s.left p cause).claims = s.claims.filterMap (ClaimRecord.tornFrom p) := by
  have shape := h.of_eq (s.leaving_claims p cause)
  obtain ⟨-, eq⟩ := State.leaveClaims_all (fun _ => True) p (fun _ _ => trivial)
    (fun _ _ _ _ _ _ => trivial) _ (s.leaving p cause) shape
    (State.heldTargets_length _ _).symm trivial
  rw [State.leaving_claims] at eq
  simp only [State.left, State.leaveWaits, State.withClaims_claims]
  rw [eq, List.map_filterMap]
  refine List.filterMap_congr fun c hc => ?_
  by_cases hp : c.holder = p
  · simp only [ClaimRecord.passedBy, ClaimRecord.tornFrom, hp, if_true]
    cases hd : c.passedOn with
    | none => rfl
    | some d =>
      have others := (ClaimRecord.passedOn_some hd (h.each c hc)).2.2.2.2
      have all : d.waiters.filter (fun w => decide (w.port ≠ p)) = d.waiters :=
        List.filter_eq_self.2 fun w hw => by simpa [← hp] using others w hw
      simp only [Option.map_some, all]
  · simp [ClaimRecord.passedBy, ClaimRecord.tornFrom, hp]

theorem State.tearDown_claims (h : s.ClaimsShape) (p : Port) (cause : TeardownCause) :
    (s.tearDown p cause).claims = s.claims.filterMap (ClaimRecord.tornFrom p) := by
  rw [← State.left_claims h p cause, State.tearDown_eq]
  simp

theorem ClaimRecord.tornFrom_some {p : Port} {c d : ClaimRecord} (h : c.tornFrom p = some d)
    (ok : c.Shape) :
    d.target = c.target ∧ d.Shape ∧ (d.remaining = c.remaining ∨ 1 ≤ d.remaining) ∧ d.holder ≠ p ∧
      ∀ w ∈ d.waiters, w.port ≠ p := by
  unfold ClaimRecord.tornFrom at h
  split at h
  next hp =>
    obtain ⟨target, shape, positive, holder, waiters⟩ := ClaimRecord.passedOn_some h ok
    exact ⟨target, shape, .inr positive, hp ▸ holder, hp ▸ waiters⟩
  next hp =>
    cases h
    obtain ⟨target, time, length, nodup, others, durations⟩ := ok
    refine ⟨rfl, ⟨target, time, (List.length_filter_le ..).trans length, ?_, ?_, ?_⟩, .inl rfl, hp, ?_⟩
    · exact nodup.sublist (List.filter_sublist.map _)
    · exact fun w hw => others w (List.mem_filter.1 hw).1
    · exact fun w hw => durations w (List.mem_filter.1 hw).1
    · intro w hw
      simpa using (List.mem_filter.1 hw).2

theorem State.ClaimsShape.tearDown (h : s.ClaimsShape) (p : Port) (cause : TeardownCause) :
    (s.tearDown p cause).ClaimsShape :=
  h.filterMap (State.tearDown_claims h p cause) fun c hc _ hd =>
    ⟨(ClaimRecord.tornFrom_some hd (h.each c hc)).1, (ClaimRecord.tornFrom_some hd (h.each c hc)).2.1⟩

/-! ### Expiries, and the whole of a tick -/

theorem State.expire_claims (rising : Rising ClaimRecord.target s.claims) (target : Nat) :
    (s.expire target).claims = s.claims.filterMap (ClaimRecord.passedAt target) := by
  rcases s.expire_cases target with ⟨none, h⟩ | ⟨c, -, h⟩
  · have same : s.holderLeaves target = s := by simp [State.holderLeaves, none]
    rw [h, ← State.holderLeaves_claims rising target, same]
  · rw [h, State.holderLeaves_claims (by simpa using rising)]
    simp

theorem State.ClaimsShape.expire (h : s.ClaimsShape) (target : Nat) : (s.expire target).ClaimsShape :=
  h.filterMap (State.expire_claims h.rising target)
    fun c hc _ hd => ClaimRecord.passedAt_some hd (h.each c hc)

theorem State.ClaimsShape.takeEnd (h : s.ClaimsShape) (x : TickEnd) : (s.takeEnd x).ClaimsShape := by
  cases x with
  | expiry target => exact h.expire target
  | lapse p => exact h.tearDown p .lapse

/-- A count is less where what it counts holds less often. -/
theorem countP_lt_of_mem {α : Type} {p q : α → Bool} {l : List α}
    (le : ∀ x ∈ l, p x = true → q x = true) {a : α} (mem : a ∈ l) (hp : p a = false)
    (hq : q a = true) : l.countP p < l.countP q := by
  obtain ⟨x, y, rfl⟩ := List.append_of_mem mem
  have hx := List.countP_mono_left (p := p) (q := q) (l := x) fun z hz => le z (by simp [hz])
  have hy := List.countP_mono_left (p := p) (q := q) (l := y) fun z hz => le z (by simp [hz])
  simp only [List.countP_append, List.countP_cons, hp, hq]
  simp only [Bool.false_eq_true, if_false, if_true]
  omega

theorem getD_map_eq_true {α : Type} {p : α → Bool} {o : Option α}
    (h : (o.map p).getD false = true) : ∃ d, o = some d ∧ p d = true := by
  cases o with
  | none => cases h
  | some d => exact ⟨d, rfl, h⟩

/-- The number of records that stand at 0. -/
def State.zeros (s : State) : Nat := s.claims.countP (fun c => c.remaining == 0)

theorem State.tickEnds_length (s : State) :
    s.tickEnds.length = s.zeros + Port.all.countP s.lapses := by
  simp [State.tickEnds, State.zeros, List.countP_eq_length_filter]

/-- Records filtered and handed on are at 0 only where they were before. -/
theorem countP_zero_filterMap_le (l : List ClaimRecord) (f : ClaimRecord → Option ClaimRecord)
    (h : ∀ c ∈ l, ∀ d, f c = some d → d.remaining = 0 → c.remaining = 0) :
    (l.filterMap f).countP (fun c => c.remaining == 0) ≤ l.countP (fun c => c.remaining == 0) := by
  rw [List.countP_filterMap]
  refine List.countP_mono_left fun c hc hf => ?_
  obtain ⟨d, hd, h0⟩ := getD_map_eq_true hf
  simpa using h c hc d hd (by simpa using h0)

/-- An expiry takes one record from 0. -/
theorem State.zeros_expire (h : s.ClaimsShape) {c : ClaimRecord} (mem : c ∈ s.claims)
    (zero : c.remaining = 0) : (s.expire c.target).zeros < s.zeros := by
  unfold State.zeros
  rw [State.expire_claims h.rising, List.countP_filterMap]
  refine countP_lt_of_mem (fun x hx hf => ?_) mem ?_ (by simp [zero])
  · obtain ⟨d, hd, h0⟩ := getD_map_eq_true hf
    unfold ClaimRecord.passedAt at hd
    split at hd
    · have := (ClaimRecord.passedOn_some hd (h.each x hx)).2.2.1
      simp at h0; omega
    · cases hd
      exact h0
  · simp only [ClaimRecord.passedAt, if_true]
    cases hp : c.passedOn with
    | none => simp
    | some d =>
      have := (ClaimRecord.passedOn_some hp (h.each c mem)).2.2.1
      simp; omega

theorem State.zeros_tearDown (h : s.ClaimsShape) (p : Port) (cause : TeardownCause) :
    (s.tearDown p cause).zeros ≤ s.zeros := by
  unfold State.zeros
  rw [State.tearDown_claims h]
  refine countP_zero_filterMap_le _ _ fun c hc d hd h0 => ?_
  rcases (ClaimRecord.tornFrom_some hd (h.each c hc)).2.2.1 with h1 | h1
  · rw [← h1, h0]
  · omega

/-- Each expiry and each lapse that is due leaves fewer to come. -/
theorem State.tickEnds_takeEnd (h : s.ClaimsShape) {x : TickEnd} (due : x ∈ s.tickEnds) :
    (s.takeEnd x).tickEnds.length < s.tickEnds.length := by
  rw [State.tickEnds_length, State.tickEnds_length]
  rcases (s.mem_tickEnds x).1 due with ⟨c, mem, zero, rfl⟩ | ⟨p, attached, timer, rfl⟩
  · have fewer := State.zeros_expire h mem zero
    have feeds := s.expire_feeds c.target
    have same : (s.expire c.target).lapses = s.lapses := by
      funext q
      simp [State.lapses, feeds.isAttached, feeds.records]
    simp only [State.takeEnd, same]
    omega
  · have fewer := State.zeros_tearDown h p .lapse
    have lapses : Port.all.countP (s.tearDown p .lapse).lapses < Port.all.countP s.lapses := by
      refine countP_lt_of_mem (fun q _ hq => ?_) (Port.mem_all p) ?_ ?_
      · by_cases hp : q = p
        · subst hp
          simp [State.lapses, State.tearDown_isAttached_self] at hq
        · simpa [State.lapses, State.isAttached, State.tearDown_get_ne _ hp] using hq
      · simp [State.lapses, State.tearDown_isAttached_self]
      · simp [State.lapses, attached, timer]
    simp only [State.takeEnd]
    omega

/-- After a tick nothing is left to expire or lapse. -/
theorem State.finishTick_ends (fuel : Nat) (s : State) (h : s.ClaimsShape)
    (enough : s.tickEnds.length ≤ fuel) : (State.finishTick fuel s).tickEnds = [] := by
  induction fuel generalizing s with
  | zero =>
    unfold State.finishTick
    exact List.length_eq_zero_iff.1 (by omega)
  | succ fuel ih =>
    unfold State.finishTick
    split
    next none => exact none
    next x one =>
      have := State.tickEnds_takeEnd h (x := x) (by simp [one])
      rw [one] at this
      exact List.length_eq_zero_iff.1 (by simpa using this)
    next x y rest many =>
      have same : (s.withPicks (s.picks + 1)).tickEnds = s.tickEnds := rfl
      have shape : (s.withPicks (s.picks + 1)).ClaimsShape := h.of_eq rfl
      refine ih _ (shape.takeEnd _) ?_
      have := State.tickEnds_takeEnd shape
        (x := (x :: y :: rest).getD (Config.tickPick s.picks % (x :: y :: rest).length) x)
        (by rw [same, many]; exact getD_mod_mem _ _ _ (by simp))
      rw [same] at this
      omega

theorem State.ClaimsShape.countDown (h : s.ClaimsShape) : s.countDown.ClaimsShape := by
  refine h.filterMap (f := fun c => some (if c.target ∈ s.ticked.claims then c
    else { c with remaining := c.remaining - 1 })) (by simp [State.countDown]) ?_
  intro c hc d hd
  cases hd
  obtain ⟨target, time, rest⟩ := h.each c hc
  split
  · exact ⟨rfl, target, time, rest⟩
  · exact ⟨rfl, target, by dsimp only; omega, rest⟩

theorem State.ClaimsShape.finishTick (h : s.ClaimsShape) (fuel : Nat) :
    (State.finishTick fuel s).ClaimsShape :=
  State.finishTick_induct State.ClaimsShape (fun _ h => h.of_eq rfl)
    (fun _ x h => h.takeEnd x) fuel s h

/-- Every record stands at 1 or more after a tick (R23, R32). -/
theorem State.ClaimsShape.tick (h : s.ClaimsShape) :
    (State.finishTick s.countDown.tickEnds.length s.countDown).ClaimsOk := by
  rw [State.claimsOk_iff]
  refine ⟨h.countDown.finishTick _, fun c hc => ?_⟩
  have none := State.finishTick_ends _ _ h.countDown le_rfl
  by_contra zero
  have due : TickEnd.expiry c.target ∈
      (State.finishTick s.countDown.tickEnds.length s.countDown).tickEnds :=
    (State.mem_tickEnds _ _).2 (.inl ⟨c, hc, by omega, rfl⟩)
  rw [none] at due
  cases due

end

end Sys2Proof.Machine

/-! The tables: every happening keeps the directory, the Claim Table, the port records and the
Scheduler's fields in their ranges. -/

namespace Sys2Proof.Machine

/-! ### Entries of the directory -/

theorem StationEntry.Ok.validReply {e : StationEntry} (h : e.Ok) (noise advance : Bool) :
    (e.validReply noise advance).Ok := by
  obtain ⟨address, -, -, subs, -, misses, noisy, lost⟩ := h
  refine ⟨address, Nat.zero_le _, by simp [StationEntry.validReply], subs, ?_, misses, ?_, lost⟩
  · simp only [StationEntry.validReply, wrapInc]; omega
  · simp only [StationEntry.validReply]
    split
    · exact satInc_le ..
    · exact noisy

theorem StationEntry.Ok.successfulProbe {e : StationEntry} (h : e.Ok) (noise : Bool) :
    (e.successfulProbe noise).Ok := h.validReply noise false

theorem StationEntry.Ok.failedAttempt {e : StationEntry} (h : e.Ok) (threshold : Nat) :
    (e.failedAttempt threshold).Ok := by
  obtain ⟨address, miss, state, subs, replies, -, rest⟩ := h
  rw [StationEntry.failedAttempt_eq]
  have some' : min 15 (e.miss + 1) ≠ 0 := by omega
  split
  · exact ⟨address, Nat.min_le_left .., by simp [some'], subs, replies, Nat.min_le_left .., rest⟩
  · refine ⟨address, Nat.min_le_left .., ?_, subs, replies, Nat.min_le_left .., rest⟩
    split
    · simp [some']
    next kept => simpa [some'] using kept

theorem StationEntry.Ok.consumed {e : StationEntry} (h : e.Ok) (lost : Bool) :
    (e.consumed lost).Ok := by
  obtain ⟨address, miss, state, subs, replies, misses, noisy, hlost, deferred⟩ := h
  refine ⟨address, miss, state, subs, replies, misses, noisy, ?_, deferred⟩
  simp only [StationEntry.consumed]
  split
  · exact satInc_le ..
  · exact hlost

theorem StationEntry.Ok.deferred {e : StationEntry} (h : e.Ok) :
    StationEntry.Ok { e with deferredReports := satInc 65535 e.deferredReports } := by
  obtain ⟨address, miss, state, subs, replies, misses, noisy, lost, -⟩ := h
  exact ⟨address, miss, state, subs, replies, misses, noisy, lost, satInc_le ..⟩

theorem StationEntry.Ok.withSubscribers {e : StationEntry} (h : e.Ok) {subs : List Subscription}
    (order : subs.Pairwise (fun x y => x.port.index < y.port.index)) :
    StationEntry.Ok { e with subscribers := subs } := by
  obtain ⟨address, miss, state, -, rest⟩ := h
  exact ⟨address, miss, state, order, rest⟩

theorem StationEntry.enrolled_ok {a : Nat} (poll : Bool) (range : 1 ≤ a ∧ a ≤ 126) :
    (StationEntry.enrolled a poll).Ok := by
  simp [StationEntry.Ok, StationEntry.enrolled, range]

theorem Port.index_inj {p q : Port} (h : p.index = q.index) : p = q := by
  cases p <;> cases q <;> first | rfl | cases h

/-- A subscriber set stays in port order as a record comes to it (R7). -/
theorem addSubscription_order (p : Port) {subs : List Subscription}
    (h : subs.Pairwise (fun x y => x.port.index < y.port.index)) :
    (addSubscription p subs).Pairwise (fun x y => x.port.index < y.port.index) := by
  unfold addSubscription
  split
  · exact h
  next absent =>
    have ne : ∀ x ∈ subs, x.port.index ≠ p.index := fun x hx heq =>
      absent (by simpa using ⟨x, hx, Port.index_inj heq⟩)
    have low : ∀ x ∈ subs.takeWhile (fun x => decide (x.port.index < p.index)),
        x.port.index < p.index := fun x hx => by simpa using List.mem_takeWhile_imp hx
    have parts := List.takeWhile_append_dropWhile
      (p := fun x : Subscription => decide (x.port.index < p.index)) (l := subs)
    have high : ∀ x ∈ subs.dropWhile (fun x => decide (x.port.index < p.index)),
        p.index < x.port.index := by
      intro x hx
      cases hd : subs.dropWhile (fun x => decide (x.port.index < p.index)) with
      | nil => rw [hd] at hx; cases hx
      | cons y ys =>
        have hy : ¬ y.port.index < p.index := by
          have := List.head?_dropWhile_not (fun x : Subscription => decide (x.port.index < p.index)) subs
          rw [hd] at this
          simpa using this
        have order := h.sublist (List.dropWhile_sublist (fun x => decide (x.port.index < p.index)))
        rw [hd] at order hx
        have my : y ∈ subs := (List.dropWhile_sublist _).subset (hd ▸ List.mem_cons_self ..)
        have := ne y my
        rcases List.mem_cons.1 hx with rfl | hx
        · omega
        · have := (List.pairwise_cons.1 order).1 x hx
          omega
    rw [List.pairwise_append]
    refine ⟨h.sublist (List.takeWhile_sublist _), ?_, ?_⟩
    · exact List.pairwise_cons.2 ⟨high, h.sublist (List.dropWhile_sublist _)⟩
    · intro x hx y hy
      rcases List.mem_cons.1 hy with rfl | hy
      · exact low x hx
      · exact Nat.lt_trans (low x hx) (high y hy)

/-! ### The directory -/

section
variable {s t : State}

theorem State.DirectoryOk.of_eq (h : s.DirectoryOk) (eq : t.directory = s.directory) :
    t.DirectoryOk := by
  simpa only [State.DirectoryOk, eq] using h

/-- An entry takes the place of the one of its address. -/
theorem State.DirectoryOk.put (h : s.DirectoryOk) {e x : StationEntry} {a : Nat}
    (found : s.station? a = some e) (address : x.address = e.address) (ok : x.Ok) :
    (s.putStation x).DirectoryOk := by
  obtain ⟨length, rising, each⟩ := h
  obtain ⟨mem, -⟩ := State.station?_some found
  refine ⟨?_, rising_tablePut x rising, fun y hy => ?_⟩
  · rw [State.putStation, State.withDirectory_directory,
      length_tablePut_of_mem rising mem address.symm]
    exact length
  · rcases mem_tablePut hy with rfl | hy
    · exact ok
    · exact each y hy

/-- A new entry comes where there is room for it (R3). -/
theorem State.DirectoryOk.add (h : s.DirectoryOk) {x : StationEntry}
    (room : s.directory.length < 64) (ok : x.Ok) : (s.putStation x).DirectoryOk := by
  obtain ⟨-, rising, each⟩ := h
  refine ⟨(length_tablePut_le ..).trans room, rising_tablePut x rising, fun y hy => ?_⟩
  rcases mem_tablePut hy with rfl | hy
  · exact ok
  · exact each y hy

theorem State.DirectoryOk.entry (h : s.DirectoryOk) {a : Nat} {e : StationEntry}
    (found : s.station? a = some e) : e.Ok := h.2.2 e (State.station?_some found).1

theorem State.DirectoryOk.changeStation (h : s.DirectoryOk) (a : Nat)
    {f : StationEntry → StationEntry} (address : ∀ e, (f e).address = e.address)
    (ok : ∀ e : StationEntry, e.Ok → (f e).Ok) : (s.changeStation a f).DirectoryOk := by
  rcases s.changeStation_cases a f with ⟨-, eq⟩ | ⟨e, found, ⟨-, eq⟩ | ⟨-, eq⟩⟩
  · rw [eq]; exact h
  · rw [eq]; exact h.put found (address e) (ok e (h.entry found))
  · rw [eq]; exact (h.put found (address e) (ok e (h.entry found))).of_eq (by simp)

theorem State.DirectoryOk.applyReport (h : s.DirectoryOk) (a : Nat) (r : StationReport) :
    (s.applyReport a r).DirectoryOk := by
  cases r with
  | none => exact h
  | validReply noise advance =>
    exact h.changeStation a (fun _ => rfl) fun e he => he.validReply noise advance
  | successfulProbe noise => exact h.changeStation a (fun _ => rfl) fun e he => he.successfulProbe noise
  | failedAttempt =>
    exact h.changeStation a (fun e => e.failedAttempt_address _) fun e he => he.failedAttempt _

theorem State.DirectoryOk.judgeReport (h : s.DirectoryOk) (a : Nat) (sBit : Bool)
    (payload : List Byte) (noise : Bool) : (s.judgeReport a sBit payload noise).DirectoryOk := by
  rcases s.judgeReport_cases a sBit payload noise with eq | ⟨e, found, eq | eq | ⟨i, -, eq⟩⟩
  · rw [eq]; exact h
  · rw [eq]; exact h.put found rfl ((h.entry found).consumed _)
  · rw [eq]; exact h.put found rfl (h.entry found).deferred
  · rw [eq]
    have same : ((s.offerReport e.subscribers
        { station := e.address, buffer := i, length := payload.length, noise := noise
          gap := false }).setBuffer i
        (if e.subscribers.countP (fun x => s.admits x.port) = 0 then none
          else some
            { station := e.address, payload := payload, noise := noise
              refs := e.subscribers.countP (fun x => s.admits x.port) })).directory =
        s.directory := by simp
    refine (h.of_eq same).put (e := e) (a := a) (by simpa [State.station?, same] using found) rfl ?_
    refine ((h.entry found).withSubscribers ?_).consumed _
    rw [List.pairwise_map]
    exact (h.entry found).2.2.2.1

theorem State.DirectoryOk.storeReport (h : s.DirectoryOk) (a : Nat)
    (r : Option (Bool × List Byte × Bool)) : (s.storeReport a r).DirectoryOk := by
  cases r with
  | none => exact h
  | some x => exact h.judgeReport a _ _ _

theorem State.DirectoryOk.handResult (h : s.DirectoryOk) (x : Transaction) (sBit : Bool)
    (result : ExchangeResult) : (s.handResult x sBit result).DirectoryOk := by
  obtain ⟨j, u, -, hu, ⟨-, -, eq⟩ | eq⟩ := s.handResult_cases x sBit result
  all_goals
    refine State.DirectoryOk.of_eq ((h.applyReport x.station j.report).storeReport x.station j.store) ?_
    rw [eq, hu]
    simp

theorem State.DirectoryOk.endExchange (h : s.DirectoryOk) (result : ExchangeResult) :
    (s.endExchange result).DirectoryOk := by
  unfold State.endExchange
  dsimp only
  split
  · exact h
  · exact State.DirectoryOk.handResult (s := s.withEngine s.engine.enterGap) h _ _ _

/-- The directory after a teardown (R21). -/
theorem State.tearDown_directory (s : State) (p : Port) (cause : TeardownCause) :
    (s.tearDown p cause).directory =
      s.directory.map fun e =>
        { e with subscribers := e.subscribers.filter (fun x => decide (x.port ≠ p)) } := by
  simp [State.tearDown, State.dropSubscriptions]

theorem State.DirectoryOk.tearDown (h : s.DirectoryOk) (p : Port) (cause : TeardownCause) :
    (s.tearDown p cause).DirectoryOk := by
  obtain ⟨length, rising, each⟩ := h
  unfold State.DirectoryOk
  rw [State.tearDown_directory]
  refine ⟨by simpa using length, ?_, fun y hy => ?_⟩
  · rw [List.pairwise_map]
    exact rising
  · obtain ⟨e, he, rfl⟩ := List.mem_map.1 hy
    exact (each e he).withSubscribers ((each e he).2.2.2.1.sublist List.filter_sublist)

@[simp] theorem State.expire_directory (s : State) (target : Nat) :
    (s.expire target).directory = s.directory := by
  rcases s.expire_cases target with ⟨-, h⟩ | ⟨c, -, h⟩ <;> simp [h]

theorem State.DirectoryOk.takeEnd (h : s.DirectoryOk) (x : TickEnd) : (s.takeEnd x).DirectoryOk := by
  cases x with
  | expiry target => exact h.of_eq (by simp [State.takeEnd])
  | lapse p => exact h.tearDown p .lapse

variable {c : Instr} {p : Port}

theorem Act.directoryOk (act : Act c p s t) (h : s.DirectoryOk) : t.DirectoryOk := by
  cases act with
  | detach => exact h.tearDown p .detach
  | enroll a poll range absent room =>
    exact (h.add room (StationEntry.enrolled_ok poll range)).of_eq (by simp)
  | dismiss e =>
    obtain ⟨length, rising, each⟩ := h
    exact ⟨(List.length_filter_le ..).trans length, rising_tableDrop _ rising,
      fun y hy => each y (List.mem_filter.1 hy).1⟩
  | setStation e poll found =>
    exact (h.put (e := e) (x := { e with pollEnabled := poll }) found rfl
      (h.entry (e := e) found)).of_eq (by simp)
  | subscribe e found =>
    exact h.put found rfl ((h.entry found).withSubscribers
      (addSubscription_order p (h.entry found).2.2.2.1))
  | unsubscribe e found =>
    exact h.put found rfl ((h.entry found).withSubscribers
      ((h.entry found).2.2.2.1.sublist List.filter_sublist))
  | renew => exact h.of_eq (by simp [State.renewClaim_eq])
  | _ => exact h.of_eq (by simp)

theorem Happening.directoryOk (happening : Happening c s t) (h : s.DirectoryOk) : t.DirectoryOk := by
  cases happening with
  | packet p code body u r command receives act =>
    exact (act.directoryOk (s := s.heard p) h).of_eq (by simp)
  | tick =>
    exact State.finishTick_induct State.DirectoryOk (fun _ h => h) (fun _ x h => h.takeEnd x) _ _
      (h.of_eq rfl)
  | lapse p => exact State.DirectoryOk.tearDown (h.of_eq (by simp)) p .lapse
  | reset => exact State.DirectoryOk.of_eq (s := State.reset) (by decide) rfl
  | ends e result => exact State.DirectoryOk.endExchange (s := s.withEngine e) h result
  | _ => exact h.of_eq (by simp)

/-! ### The port records -/

theorem State.recordsOk_iff (s : State) : s.RecordsOk ↔ ∀ p, (s.records.get p).Ok :=
  ⟨fun h p => h p (Port.mem_all p), fun h p _ => h p⟩

theorem State.RecordsOk.set (h : s.RecordsOk) {p : Port} {r : PortRecord} (ok : r.Ok)
    (eq : t.records = s.records.set p r) : t.RecordsOk := by
  rw [State.recordsOk_iff] at h ⊢
  intro q
  rw [eq, PerPort.get_set]
  split
  · exact ok
  · exact h q

theorem State.RecordsOk.of_eq (h : s.RecordsOk) (eq : t.records = s.records) : t.RecordsOk := by
  simpa only [State.RecordsOk, eq] using h

/-- A record whose session ends keeps its ranges (R164). -/
theorem PortRecord.Ok.ended {r : PortRecord} (h : r.Ok) (cause : TeardownCause) :
    PortRecord.Ok { r with session := .detached, timer := none, cause := cause } := by
  obtain ⟨number, lapse, fragments, -⟩ := h
  exact ⟨number, lapse, fragments, nofun, by simp, by simp⟩

theorem State.RecordsOk.tearDown (h : s.RecordsOk) (p : Port) (cause : TeardownCause) :
    (s.tearDown p cause).RecordsOk :=
  h.set (((State.recordsOk_iff s).1 h p).ended cause) (State.tearDown_records s p cause)

theorem State.RecordsOk.heard (h : s.RecordsOk) (p : Port) : (s.heard p).RecordsOk := by
  refine h.set (p := p) ?_ rfl
  have ok := (State.recordsOk_iff s).1 h p
  split
  next running =>
    obtain ⟨number, lapse, fragments, attached, -⟩ := ok
    exact ⟨number, lapse, fragments, attached, by simp [running], by simp; omega⟩
  next => exact ok

theorem PortRecord.Ok.attach {r : PortRecord} (h : r.Ok) {lapse : Nat}
    (range : lapse = 0 ∨ (50 ≤ lapse ∧ lapse ≤ 60000)) : (r.attach lapse).Ok := by
  obtain ⟨number, -, fragments, -⟩ := h
  have next : 1 ≤ nextSession r.number ∧ nextSession r.number ≤ 255 := by
    unfold nextSession
    split <;> omega
  refine ⟨next.2, range, fragments, fun _ => next.1, ?_, ?_⟩
  · by_cases h0 : lapse = 0 <;> simp [PortRecord.attach, h0]; omega
  · by_cases h0 : lapse = 0 <;> simp [PortRecord.attach, h0]; omega

/-- After a tick every timer that runs stands at 1 or more: one at 0 would be left to lapse. -/
theorem State.RecordsOk.tick (h : s.RecordsOk) (shape : s.ClaimsShape) :
    (State.finishTick s.countDown.tickEnds.length s.countDown).RecordsOk := by
  rw [State.recordsOk_iff] at h ⊢
  intro p
  have weak : ∀ n ∈ (s.countDown.records.get p).timer, n ≤ (s.records.get p).lapseTime := by
    intro n hn
    rw [State.countDown_get] at hn
    split at hn
    · exact ((h p).2.2.2.2.2 n hn).2
    · obtain ⟨m, hm, rfl⟩ := Option.map_eq_some_iff.1 hn
      have := ((h p).2.2.2.2.2 m hm).2
      omega
  have fields : ∃ timer, s.countDown.records.get p = { s.records.get p with timer := timer } ∧
      timer.isSome = (s.records.get p).timer.isSome := by
    rw [State.countDown_get]
    split
    · exact ⟨_, rfl, rfl⟩
    · exact ⟨_, rfl, by simp⟩
  obtain ⟨timer, eq, running⟩ := fields
  obtain ⟨number, lapse, fragments, attached, runs, range⟩ := h p
  rcases s.finishTick_record s.countDown.tickEnds.length p with same | ⟨-, ended⟩
  · have none := State.finishTick_ends _ _ shape.countDown le_rfl
    rw [same, eq]
    refine ⟨number, lapse, fragments, attached, by rw [running]; exact runs, fun n hn => ⟨?_, ?_⟩⟩
    · by_contra zero
      have hn0 : timer = some 0 := by
        have : n = 0 := by omega
        rw [← this]; exact hn
      have session : (s.records.get p).session = .attached :=
        (runs.1 (by rw [← running, hn0]; rfl)).1
      have due : TickEnd.lapse p ∈
          (State.finishTick s.countDown.tickEnds.length s.countDown).tickEnds :=
        (State.mem_tickEnds _ _).2 (.inr ⟨p, by simp [State.isAttached, same, eq, session],
          by rw [same, eq]; exact hn0, rfl⟩)
      rw [none] at due
      cases due
    · exact weak n (by rw [eq]; exact hn)
  · rw [ended, eq]
    exact ⟨number, lapse, fragments, nofun, by simp, by simp⟩

theorem Act.recordsOk (act : Act c p s t) (h : s.RecordsOk) : t.RecordsOk := by
  cases act with
  | attach body lapse command detached range =>
    exact h.set (p := p) (((State.recordsOk_iff s).1 h p).attach range) (by simp [State.onRecord])
  | detach => exact h.tearDown p .detach
  | renew => exact h.of_eq (by simp [State.renewClaim_eq])
  | _ => exact h.of_eq (by simp)

theorem Happening.recordsOk (happening : Happening c s t) (h : s.RecordsOk)
    (shape : s.ClaimsShape) : t.RecordsOk := by
  cases happening with
  | packet p code body u r command receives act =>
    exact (act.recordsOk (h.heard p)).of_eq (by simp)
  | fragment p =>
    have ok := (State.recordsOk_iff s).1 h p
    refine h.set (p := p) (r := { s.records.get p with
      fragments := satInc 65535 (s.records.get p).fragments }) ?_ (by simp [State.onRecord])
    exact ⟨ok.1, ok.2.1, satInc_le .., ok.2.2.2⟩
  | tick => exact h.tick shape
  | expiry k =>
    exact h.of_eq (((s.reachClaim k.target).expire_feeds k.target).records.trans (by simp))
  | lapse p => exact State.RecordsOk.tearDown (h.of_eq (by simp)) p .lapse
  | reset => exact State.RecordsOk.of_eq (s := State.reset) (by decide) rfl
  | _ => exact h.of_eq (by simp)

/-! ### The Scheduler's fields -/

/-- The ranges of Table 4-1. -/
abbrev Scheduler.Ok (d : Scheduler) : Prop :=
  d.cursor ≤ 126 ∧ d.visits ≤ 64 ∧ d.credit ≤ 8 ∧ (d.mode ≠ .once → d.requester = none)

/-- The sweep and the credit are as they were, but for a ONCE requester that may be gone. -/
structure Scheduler.Keeps (d d' : Scheduler) : Prop where
  cursor : d'.cursor = d.cursor
  visits : d'.visits = d.visits
  credit : d'.credit = d.credit
  mode : d'.mode = d.mode
  requester : d'.requester = d.requester ∨ d'.requester = none

theorem Scheduler.Keeps.refl (d : Scheduler) : d.Keeps d := ⟨rfl, rfl, rfl, rfl, .inl rfl⟩

theorem Scheduler.Keeps.trans {d d' d'' : Scheduler} (h : d.Keeps d') (h' : d'.Keeps d'') :
    d.Keeps d'' := by
  refine ⟨h'.cursor.trans h.cursor, h'.visits.trans h.visits, h'.credit.trans h.credit,
    h'.mode.trans h.mode, ?_⟩
  rcases h'.requester with e | e
  · rw [e]; exact h.requester
  · exact .inr e

theorem Scheduler.Keeps.ok {d d' : Scheduler} (h : d.Keeps d') (ok : d.Ok) : d'.Ok := by
  obtain ⟨cursor, visits, credit, requester⟩ := ok
  refine ⟨h.cursor ▸ cursor, h.visits ▸ visits, h.credit ▸ credit, fun hm => ?_⟩
  rcases h.requester with e | e
  · rw [e]; exact requester (h.mode ▸ hm)
  · exact e

@[simp] theorem State.changeLine_scheduler (s : State) (new : LineState) (cause : LineCause) :
    (s.changeLine new cause).scheduler = { s.scheduler with line := new } := by
  simp [State.changeLine]

@[simp] theorem State.clearTransaction_scheduler (s : State) :
    s.clearTransaction.scheduler = { s.scheduler with busy := .none } := rfl

/-- The Scheduler after the end of a transaction (R63, R97). -/
theorem State.endTransaction_scheduler (s : State) :
    s.endTransaction.scheduler =
      { s.scheduler with
        busy := .none, line := if s.scheduler.line = .draining then .stopped else s.scheduler.line } := by
  unfold State.endTransaction
  split
  next => simp
  next => simp

theorem State.endTransaction_keeps (s : State) : s.scheduler.Keeps s.endTransaction.scheduler := by
  rw [State.endTransaction_scheduler]
  exact ⟨rfl, rfl, rfl, rfl, .inl rfl⟩

theorem State.finishRequest_keeps (s : State) (i : Nat) (status : CompletionStatus) :
    s.scheduler.Keeps (s.finishRequest i status).scheduler := by
  have h := (s.endRequest i status).endTransaction_keeps
  rwa [(State.endRequest_frame ..).2.2.2.2.2.2.2.2.1] at h

theorem State.endAttempt_keeps (s : State) (x : Transaction) (v : Verdict) :
    s.scheduler.Keeps (s.endAttempt x v).scheduler := by
  rcases s.endAttempt_cases x v with ⟨i, status, -, h⟩ | h | ⟨i, q, r, -, -, -, h⟩
  · rw [h]; exact s.finishRequest_keeps i status
  · rw [h]; exact s.endTransaction_keeps
  · rw [h]; exact .refl _

theorem State.handResult_keeps (s : State) (x : Transaction) (sBit : Bool)
    (result : ExchangeResult) : s.scheduler.Keeps (s.handResult x sBit result).scheduler := by
  obtain ⟨j, u, -, hu, h⟩ := s.handResult_cases x sBit result
  have same : u.scheduler = s.scheduler := by rw [hu]; simp
  rw [← same]
  rcases h with ⟨-, -, h⟩ | h
  · rw [h]; exact .refl _
  · rw [h]; exact u.endAttempt_keeps x _

theorem State.endExchange_keeps (s : State) (result : ExchangeResult) :
    s.scheduler.Keeps (s.endExchange result).scheduler := by
  unfold State.endExchange
  dsimp only
  split
  · exact .refl _
  · exact State.handResult_keeps (s.withEngine s.engine.enterGap) _ _ _

theorem State.resumeTransaction_keeps (s : State) :
    s.scheduler.Keeps s.resumeTransaction.scheduler := by
  rcases s.resumeTransaction_cases with h | ⟨x, -, ⟨-, h⟩ | ⟨-, h | ⟨i, -, h | ⟨q, r, -, -, h⟩⟩⟩⟩
  · rw [h]; exact .refl _
  · rw [h]; exact .refl _
  · rw [h]; exact s.endTransaction_keeps
  · rw [h]; exact s.finishRequest_keeps i _
  · rw [h]; simpa using .refl _

theorem State.cutTransaction_keeps (s : State) : s.scheduler.Keeps s.cutTransaction.scheduler := by
  unfold State.cutTransaction
  split
  · exact .refl _
  · split
    · simpa using ⟨rfl, rfl, rfl, rfl, .inl rfl⟩
    · exact ⟨rfl, rfl, rfl, rfl, .inl rfl⟩

/-! ### The Scheduler in a selection -/

/-- The station the sweep finds is an entry of the directory that is poll-enabled (R73). -/
theorem State.stationAbove?_some {k a : Nat} (h : s.stationAbove? k = some a) :
    ∃ e ∈ s.directory, e.address = a ∧ e.pollEnabled = true ∧ k < a := by
  unfold State.stationAbove? at h
  obtain ⟨e, he, rfl⟩ := Option.map_eq_some_iff.1 h
  have := List.find?_some he
  simp only [Bool.and_eq_true, decide_eq_true_eq] at this
  exact ⟨e, List.mem_of_find?_eq_some he, rfl, this.1, this.2⟩

theorem State.sweepFinds?_some {a : Nat} (h : s.sweepFinds? = some a) :
    ∃ e ∈ s.directory, e.address = a ∧ e.pollEnabled = true := by
  have above : ∀ k, s.stationAbove? k = some a →
      ∃ e ∈ s.directory, e.address = a ∧ e.pollEnabled = true := fun k hk => by
    obtain ⟨e, he, ha, hp, -⟩ := State.stationAbove?_some hk
    exact ⟨e, he, ha, hp⟩
  unfold State.sweepFinds? at h
  split at h
  · cases h
  · exact above _ h
  · cases h1 : s.stationAbove? s.scheduler.cursor with
    | some b => rw [h1] at h; cases h; exact above _ h1
    | none => rw [h1] at h; exact above _ h

theorem State.endSweep_scheduler (s : State) :
    s.endSweep.scheduler = { s.scheduler with mode := .off, requester := none } := by
  unfold State.endSweep
  dsimp only
  split <;> simp

theorem State.beginVisit_scheduler (s : State) (a credit : Nat) :
    (s.beginVisit a credit).scheduler =
      { s.scheduler with
        cursor := a
        visits :=
          if s.scheduler.mode = .once then satInc 64 s.scheduler.visits else s.scheduler.visits
        credit := credit, busy := .visit a } := by
  simp [State.beginVisit]

theorem State.beginRequest_scheduler (s : State) (p : Port) (i : Nat) (r : Request) :
    (s.beginRequest p i r).scheduler =
      { s.scheduler with credit := satInc 8 s.scheduler.credit, busy := .request i } := by
  simp [State.beginRequest]

@[simp] theorem State.takeChoice_scheduler (s : State) (p : Port) (i : Nat) :
    (s.takeChoice p i).scheduler = { s.scheduler with pointer := p } := rfl

theorem State.sweepSearch_schedulerOk (h : s.scheduler.Ok) : s.sweepSearch.scheduler.Ok := by
  unfold State.sweepSearch
  split
  · rw [State.endSweep_scheduler]
    exact ⟨h.1, h.2.1, h.2.2.1, fun _ => rfl⟩
  · exact h

/-- The choosing keeps the ranges: the cursor takes the address that the search found, and the credit
rises by one, becomes 0 or stays (R69, R71, R73). -/
theorem State.choose_schedulerOk {found : Option Nat} (range : ∀ a ∈ found, a ≤ 126) (fuel : Nat)
    (s : State) (h : s.scheduler.Ok) : (State.choose fuel found s).scheduler.Ok := by
  have visit : ∀ (u : State) (a credit : Nat), u.scheduler.Ok → a ≤ 126 → credit ≤ 8 →
      (u.beginVisit a credit).scheduler.Ok := by
    intro u a credit hu ha hcredit
    rw [State.beginVisit_scheduler]
    refine ⟨ha, ?_, hcredit, hu.2.2.2⟩
    dsimp only
    split
    · exact satInc_le ..
    · exact hu.2.1
  induction fuel generalizing s with
  | zero => exact h
  | succ fuel ih =>
    unfold State.choose
    split
    next a ha => exact visit s a 0 h (range a (Option.filter_eq_some_iff.1 ha).1) (Nat.zero_le _)
    next =>
      split
      next p i _ =>
        split
        next q r _ =>
          split
          · refine ih _ ?_
            rw [(State.endRequest_frame ..).2.2.2.2.2.2.2.2.1]
            exact h
          · rw [State.beginRequest_scheduler]
            exact ⟨h.1, h.2.1, satInc_le .., h.2.2.2⟩
        all_goals exact h
      next =>
        split
        next a _ => exact visit s a _ h (range a rfl) h.2.2.1
        next => exact h

theorem State.select_schedulerOk (h : s.scheduler.Ok) (directory : s.DirectoryOk) :
    s.select.scheduler.Ok := by
  unfold State.select
  split
  · refine State.choose_schedulerOk (fun a ha => ?_) _ _ (State.sweepSearch_schedulerOk h)
    obtain ⟨e, he, rfl, -⟩ := State.sweepFinds?_some ha
    exact (directory.2.2 e he).1.2
  · exact h

/-- The directory in its ranges and the Scheduler in its own. -/
structure State.SweepOk (s : State) : Prop where
  directory : s.DirectoryOk
  scheduler : s.scheduler.Ok

theorem State.SweepOk.select (h : s.SweepOk) : s.select.SweepOk :=
  ⟨h.directory.of_eq (by simp), State.select_schedulerOk h.scheduler h.directory⟩

theorem State.SweepOk.keeps (h : s.SweepOk) (directory : t.DirectoryOk)
    (keeps : s.scheduler.Keeps t.scheduler) : t.SweepOk := ⟨directory, keeps.ok h.scheduler⟩

theorem State.SweepOk.of_eq (h : s.SweepOk) (directory : t.directory = s.directory)
    (scheduler : t.scheduler = s.scheduler) : t.SweepOk :=
  ⟨h.directory.of_eq directory, scheduler ▸ h.scheduler⟩

theorem State.SweepOk.holderLeaves (h : s.SweepOk) (target : Nat) :
    (s.holderLeaves target).SweepOk := by
  unfold State.holderLeaves
  split
  · exact h
  · exact (h.of_eq (by simp) (by simp)).select

theorem State.SweepOk.expire (h : s.SweepOk) (target : Nat) : (s.expire target).SweepOk := by
  rcases s.expire_cases target with ⟨-, eq⟩ | ⟨c, -, eq⟩
  · rw [eq]; exact h
  · rw [eq]; exact (h.of_eq (by simp) (by simp)).holderLeaves target

theorem State.dropRequester_keeps (s : State) (p : Port) :
    s.scheduler.Keeps (s.dropRequester p).scheduler := by
  unfold State.dropRequester
  split
  · exact ⟨rfl, rfl, rfl, rfl, .inr rfl⟩
  · exact .refl _

theorem State.SweepOk.tearDown (h : s.SweepOk) (p : Port) (cause : TeardownCause) :
    (s.tearDown p cause).SweepOk := by
  have left : (s.left p cause).SweepOk :=
    (State.leaveClaims_induct State.SweepOk p (fun _ h => h.of_eq rfl rfl)
      (fun _ target h => h.holderLeaves target) ((s.leaving p cause).heldTargets p).length _
      (h.of_eq (t := s.leaving p cause) (by simp [State.leaving]) (by simp [State.leaving]))).of_eq
        (by simp [State.left]) (by simp [State.left])
  refine left.keeps (h.directory.tearDown p cause) ?_
  rw [State.tearDown_eq]
  have keeps := State.dropRequester_keeps (((s.left p cause).dropSubscriptions p).flushQueue p) p
  simpa using keeps

theorem State.SweepOk.takeEnd (h : s.SweepOk) (x : TickEnd) : (s.takeEnd x).SweepOk := by
  cases x with
  | expiry target => exact h.expire target
  | lapse p => exact h.tearDown p .lapse

theorem Act.sweepOk (act : Act c p s t) (h : s.SweepOk) : t.SweepOk := by
  have directory := act.directoryOk h.directory
  cases act with
  | detach => exact h.tearDown p .detach
  | enroll a poll range absent room =>
    have put : (s.putStation (.enrolled a poll)).SweepOk :=
      ⟨h.directory.add room (StationEntry.enrolled_ok poll range), by simpa using h.scheduler⟩
    cases poll with
    | false => exact put
    | true => exact put.select
  | setStation e poll found =>
    have put : (s.putStation { e with pollEnabled := poll }).SweepOk :=
      ⟨h.directory.put (e := e) found rfl (h.directory.entry (e := e) found), by simpa using h.scheduler⟩
    cases poll with
    | false => exact put
    | true => exact put.select
  | renew => exact h.of_eq (by simp [State.renewClaim_eq]) (by simp [State.renewClaim_eq])
  | release => exact (h.of_eq (by simp) (by simp)).holderLeaves _
  | submit => exact (h.of_eq (by simp) (by simp)).select
  | start =>
    exact (h.keeps (t := s.changeLine .running .start) (h.directory.of_eq (by simp))
      (by simpa using ⟨rfl, rfl, rfl, rfl, .inl rfl⟩)).select
  | halt => exact h.keeps directory (by simpa using ⟨rfl, rfl, rfl, rfl, .inl rfl⟩)
  | drain => exact h.keeps directory ⟨rfl, rfl, rfl, rfl, .inl rfl⟩
  | cut =>
    exact h.keeps directory (s.cutTransaction_keeps.trans (by simpa using ⟨rfl, rfl, rfl, rfl, .inl rfl⟩))
  | cutStopped => exact h.keeps directory s.cutTransaction_keeps
  | sweepOff =>
    exact ⟨directory, h.scheduler.1, h.scheduler.2.1, h.scheduler.2.2.1, fun _ => rfl⟩
  | sweepOn m mode =>
    refine State.SweepOk.select ⟨h.directory, ?_⟩
    obtain ⟨cursor, visits, credit, requester⟩ := h.scheduler
    cases m with
    | off => exact absurd rfl mode
    | once => exact ⟨Nat.zero_le _, Nat.zero_le _, credit, fun hm => absurd rfl hm⟩
    | continuous => exact ⟨Nat.zero_le _, Nat.zero_le _, credit, fun _ => rfl⟩
  | _ => exact ⟨directory, by simpa using h.scheduler⟩

theorem Happening.sweepOk (happening : Happening c s t) (h : s.SweepOk) : t.SweepOk := by
  have directory := happening.directoryOk h.directory
  cases happening with
  | packet p code body u r command receives act =>
    exact (act.sweepOk (s := s.heard p) ⟨h.directory, h.scheduler⟩).of_eq (by simp) (by simp)
  | tick =>
    exact State.finishTick_induct State.SweepOk (fun _ h => h.of_eq rfl rfl) (fun _ x h => h.takeEnd x) _ _
      (h.of_eq rfl rfl)
  | expiry k => exact (h.of_eq (by simp) (by simp)).expire _
  | lapse p => exact (h.of_eq (by simp) (by simp)).tearDown p _
  | reset => exact State.SweepOk.of_eq (s := State.reset) ⟨by decide, by decide⟩ rfl rfl
  | ends e result => exact h.keeps directory (State.endExchange_keeps (s.withEngine e) result)
  | gapEnd =>
    exact (h.keeps (t := (s.withEngine s.engine.enterIdle).resumeTransaction)
      (h.directory.of_eq (by simp)) 
      (State.resumeTransaction_keeps (s.withEngine s.engine.enterIdle))).select
  | _ => exact ⟨directory, by simpa using h.scheduler⟩

/-! ### The Claim Table -/

theorem State.ClaimsOk.of_eq (h : s.ClaimsOk) (eq : t.claims = s.claims) : t.ClaimsOk := by
  simpa only [State.ClaimsOk, eq] using h

/-- Records filtered and handed on stay sound where none comes to 0. -/
theorem State.ClaimsOk.filterMap (h : s.ClaimsOk) {f : ClaimRecord → Option ClaimRecord}
    (eq : t.claims = s.claims.filterMap f)
    (keeps : ∀ c ∈ s.claims, ∀ d, f c = some d →
      d.target = c.target ∧ d.Shape ∧ (1 ≤ c.remaining → 1 ≤ d.remaining)) : t.ClaimsOk := by
  rw [State.claimsOk_iff] at h ⊢
  refine ⟨h.1.filterMap eq fun c hc d hd => ⟨(keeps c hc d hd).1, (keeps c hc d hd).2.1⟩,
    fun d hd => ?_⟩
  rw [eq, List.mem_filterMap] at hd
  obtain ⟨c, hc, hf⟩ := hd
  exact (keeps c hc d hf).2.2 (h.2 c hc)

theorem State.ClaimsOk.holderLeaves (h : s.ClaimsOk) (target : Nat) :
    (s.holderLeaves target).ClaimsOk := by
  have shape := ((State.claimsOk_iff s).1 h).1
  refine h.filterMap (State.holderLeaves_claims shape.rising target) fun k hk d hd => ?_
  obtain ⟨same, ok⟩ := ClaimRecord.passedAt_some hd (shape.each k hk)
  refine ⟨same, ok, fun positive => ?_⟩
  unfold ClaimRecord.passedAt at hd
  split at hd
  · exact (ClaimRecord.passedOn_some hd (shape.each k hk)).2.2.1
  · cases hd
    exact positive

theorem State.ClaimsOk.expire (h : s.ClaimsOk) (target : Nat) : (s.expire target).ClaimsOk := by
  rcases s.expire_cases target with ⟨-, eq⟩ | ⟨k, -, eq⟩
  · rw [eq]; exact h
  · rw [eq]; exact State.ClaimsOk.holderLeaves (h.of_eq (by simp)) target

theorem State.ClaimsOk.tearDown (h : s.ClaimsOk) (p : Port) (cause : TeardownCause) :
    (s.tearDown p cause).ClaimsOk := by
  have shape := ((State.claimsOk_iff s).1 h).1
  refine h.filterMap (State.tearDown_claims shape p cause) fun k hk d hd => ?_
  obtain ⟨same, ok, time, -⟩ := ClaimRecord.tornFrom_some hd (shape.each k hk)
  exact ⟨same, ok, fun positive => by omega⟩

/-- A record takes the place of the one of its target. -/
theorem State.ClaimsOk.put (h : s.ClaimsOk) {k x : ClaimRecord} {a : Nat}
    (found : s.claim? a = some k) (target : x.target = k.target) (ok : x.Ok)
    (eq : t.claims = tablePut ClaimRecord.target x s.claims) : t.ClaimsOk := by
  obtain ⟨length, rising, each⟩ := h
  obtain ⟨mem, -⟩ := State.claim?_some found
  unfold State.ClaimsOk
  rw [eq]
  refine ⟨?_, rising_tablePut x rising, fun y hy => ?_⟩
  · rw [length_tablePut_of_mem rising mem target.symm]
    exact length
  · rcases mem_tablePut hy with rfl | hy
    · exact ok
    · exact each y hy

/-- A waiter at the end of the list of a record that another port holds (R26). -/
theorem ClaimRecord.Ok.addWaiter {k : ClaimRecord} (h : k.Ok) {d : Nat} (other : k.holder ≠ p)
    (fresh : ∀ w ∈ k.waiters, w.port ≠ p) (capacity : k.waiters.length < 3)
    (duration : 1 ≤ d ∧ d ≤ 60000) :
    ClaimRecord.Ok { k with waiters := k.waiters ++ [⟨p, d⟩] } := by
  obtain ⟨target, time, -, nodup, others, durations⟩ := h
  refine ⟨target, time, by simpa using capacity, ?_, ?_, ?_⟩
  · simp only [List.map_append, List.map_cons, List.map_nil]
    rw [List.nodup_append]
    refine ⟨nodup, by simp, ?_⟩
    intro q hq r hr
    obtain ⟨w, hw, rfl⟩ := List.mem_map.1 hq
    rw [List.mem_singleton.1 hr]
    exact fresh w hw
  · intro w hw
    rcases List.mem_append.1 hw with hw | hw
    · exact others w hw
    · rw [List.mem_singleton.1 hw]
      exact Ne.symm other
  · intro w hw
    rcases List.mem_append.1 hw with hw | hw
    · exact durations w hw
    · rw [List.mem_singleton.1 hw]
      exact duration

theorem Act.claimsOk (act : Act c p s t) (h : s.ClaimsOk) : t.ClaimsOk := by
  cases act with
  | detach => exact State.ClaimsOk.tearDown h p .detach
  | grant a d target duration attached enrolled free capacity room =>
    obtain ⟨-, rising, each⟩ := h
    have eq : (((s.putClaim { target := a, holder := p, remaining := d, waiters := [] }).claimSet
        a).onQueue p (·.take 1)).claims =
        tablePut ClaimRecord.target { target := a, holder := p, remaining := d, waiters := [] }
          s.claims := by simp [State.putClaim]
    unfold State.ClaimsOk
    rw [eq]
    refine ⟨(length_tablePut_le ..).trans capacity, rising_tablePut _ rising, fun y hy => ?_⟩
    rcases mem_tablePut hy with rfl | hy
    · exact ⟨target, duration, by simp, by simp, by simp, by simp⟩
    · exact each y hy
  | wait k d duration attached found other fresh capacity room =>
    refine State.ClaimsOk.put h (x := { k with waiters := k.waiters ++ [⟨p, d⟩] }) found rfl
      ((h.2.2 k (State.claim?_some found).1).addWaiter other fresh capacity duration) ?_
    simp [State.putClaim]
  | renew k d duration found holder =>
    obtain ⟨target, -, rest⟩ := h.2.2 k (State.claim?_some found).1
    exact State.ClaimsOk.put h (x := { k with remaining := d }) found rfl ⟨target, duration, rest⟩
      (by rw [State.renewClaim_eq])
  | release k => exact State.ClaimsOk.holderLeaves (h.of_eq (by simp)) _
  | _ => exact State.ClaimsOk.of_eq h (by simp)

theorem Happening.claimsOk (happening : Happening c s t) (h : s.ClaimsOk) : t.ClaimsOk := by
  cases happening with
  | packet p code body u r command receives act =>
    exact State.ClaimsOk.of_eq (act.claimsOk (s := s.heard p) h) (by simp)
  | tick => exact ((State.claimsOk_iff s).1 h).1.tick
  | expiry k => exact State.ClaimsOk.expire (h.of_eq (by simp)) _
  | lapse p => exact State.ClaimsOk.tearDown (h.of_eq (by simp)) p _
  | reset => exact State.ClaimsOk.of_eq (s := State.reset) (by decide) rfl
  | _ => exact State.ClaimsOk.of_eq h (by simp)

/-- Settles O53: each of the four tables is kept by every happening, the Scheduler's fields together
with the directory that its cursor walks, the port records together with the Claim Table that a tick
counts down with them. -/
theorem stepsKeepTheTables : Obligations.StepsKeepTheTables := fun _ _ ok h =>
  step_keeps State.TablesOk (fun _ _ h => h)
    (fun _ _ _ ⟨directory, claims, records, scheduler⟩ h =>
      have happening := exec_happens h
      ⟨happening.directoryOk directory, happening.claimsOk claims,
        happening.recordsOk records ((State.claimsOk_iff _).1 claims).1,
        (happening.sweepOk ⟨directory, scheduler⟩).scheduler⟩) ok h

end

end Sys2Proof.Machine

/-! The Report Store's reference counts: a queue that is fed holds the REPORT notices it held, a notice
that leaves its queue drops its own reference, and a delivery fills a buffer nobody referred to. -/

namespace Sys2Proof.Machine

/-! ### One buffer -/

/-- The notices of a port's queue that refer to the buffer. -/
def State.held (s : State) (p : Port) (i : Nat) : Nat :=
  (s.queues.get p).notices.countP (Notice.refersTo i)

/-- What R123 asks of one buffer. -/
structure State.BufferOk (s : State) (i : Nat) : Prop where
  refs : ((s.buffers.getD i none).map ReportBuffer.refs).getD 0 = s.references i
  free : (s.buffers.getD i none).isNone = true ↔ s.references i = 0
  single : ∀ p, s.held p i ≤ 1
  shape : ∀ b ∈ s.buffers.getD i none,
    (1 ≤ b.station ∧ b.station ≤ 126) ∧ 1 ≤ b.payload.length ∧ b.payload.length ≤ 32

section
variable {s t : State}

theorem State.buffersOk_iff (s : State) :
    s.BuffersOk ↔ s.buffers.length = 16 ∧ (∀ i < 16, s.BufferOk i) ∧
      ∀ p r, Notice.report r ∈ (s.queues.get p).notices → r.buffer < 16 := by
  have named : ∀ x : Notice, x.kindCode = 0x04#8 ↔ ∃ r, x = .report r := by
    intro x
    cases x <;> simp [Notice.kindCode]
  constructor
  · rintro ⟨length, each, inside⟩
    refine ⟨length, fun i hi => ?_, fun p r mem => ?_⟩
    · obtain ⟨refs, free, single, shape⟩ := each i (List.mem_range.2 hi)
      exact ⟨refs, free, fun p => single p (by simp), shape⟩
    · have := inside p (by simp) _ mem rfl
      simpa [Notice.refersTo] using this
  · rintro ⟨length, each, inside⟩
    refine ⟨length, fun i hi => ?_, fun p _ x mem kind => ?_⟩
    · obtain ⟨refs, free, single, shape⟩ := each i (List.mem_range.1 hi)
      exact ⟨refs, free, fun p _ => single p, shape⟩
    · obtain ⟨r, rfl⟩ := (named x).1 kind
      simpa [Notice.refersTo] using inside p r mem

theorem State.references_eq (s : State) (i : Nat) :
    s.references i = s.held .a i + s.held .b i + s.held .c i + s.held .d i := by
  simp [State.references, State.held, Port.all]
  omega

/-- Where one queue alone has changed, the references change as its notices do. -/
theorem State.references_of_held {p : Port} {i n : Nat} (others : ∀ q, q ≠ p → t.held q i = s.held q i)
    (self : s.held p i = t.held p i + n) : s.references i = t.references i + n := by
  simp only [State.references_eq]
  have ha := others .a
  have hb := others .b
  have hc := others .c
  have hd := others .d
  cases p <;> simp at ha hb hc hd <;> omega

theorem Notice.refersTo_report (i : Nat) (r : ReportNotice) :
    (Notice.report r).refersTo i = (r.buffer == i) := rfl

/-! ### Feeding keeps the references -/

/-- The queues hold the REPORT notices they held, and the buffers are as they were. -/
structure State.StoreSame (s t : State) : Prop where
  buffers : t.buffers = s.buffers
  reports : ∀ p, (t.queues.get p).notices.filter Notice.isReport =
    (s.queues.get p).notices.filter Notice.isReport

theorem State.Feeds.storeSame (h : s.Feeds t) (buffers : t.buffers = s.buffers) : s.StoreSame t := by
  refine ⟨buffers, fun p => ?_⟩
  rcases h.queues p with eq | ⟨-, fed⟩
  · rw [eq]
  · obtain ⟨new, eq, plain⟩ := fed.notices
    rw [eq, List.filter_append, (List.filter_eq_nil_iff (l := new)).2 (fun x hx => by simp [plain x hx]),
      List.append_nil]

theorem countP_refersTo_reports (i : Nat) (l : List Notice) :
    l.countP (Notice.refersTo i) = (l.filter Notice.isReport).countP (Notice.refersTo i) := by
  rw [List.countP_filter]
  refine List.countP_congr fun x _ => ?_
  cases x <;> simp [Notice.refersTo, Notice.isReport]

theorem State.BuffersOk.same (h : s.BuffersOk) (same : s.StoreSame t) : t.BuffersOk := by
  rw [State.buffersOk_iff] at h ⊢
  obtain ⟨length, each, inside⟩ := h
  have held : ∀ p i, t.held p i = s.held p i := fun p i => by
    simp only [State.held]
    rw [countP_refersTo_reports, same.reports, ← countP_refersTo_reports]
  have refs : ∀ i, t.references i = s.references i := fun i => by
    simp only [State.references_eq, held]
  refine ⟨same.buffers ▸ length, fun i hi => ?_, fun p r mem => ?_⟩
  · obtain ⟨hrefs, hfree, hsingle, hshape⟩ := each i hi
    exact ⟨by rw [same.buffers, refs, hrefs], by rw [same.buffers, refs, hfree],
      fun p => held p i ▸ hsingle p, by rw [same.buffers]; exact hshape⟩
  · have mem' := List.mem_filter.2 (⟨mem, rfl⟩ : _ ∧ Notice.isReport (.report r) = true)
    rw [same.reports] at mem'
    exact inside p r (List.mem_filter.1 mem').1

/-! ### A notice that leaves its queue -/

/-- The buffers once the notice's reference has been dropped. -/
theorem State.dropReference_buffers (s : State) (x : Notice) (i : Nat) (length : s.buffers.length = 16)
    (inside : ∀ r, x = .report r → r.buffer < 16) :
    (s.dropReference x).buffers.getD i none =
      if x.refersTo i then (s.buffers.getD i none).bind ReportBuffer.drop
      else s.buffers.getD i none := by
  cases x with
  | report r =>
    have := inside r rfl
    simp only [State.dropReference, State.setBuffer, State.withBuffers_buffers, Notice.refersTo_report,
      List.getD_eq_getElem?_getD, List.getElem?_set]
    by_cases h : r.buffer = i
    · subst h; simp [length, this]
    · simp [h]
  | _ => simp [State.dropReference, Notice.refersTo]

@[simp] theorem State.dropReference_buffers_length (s : State) (x : Notice) :
    (s.dropReference x).buffers.length = s.buffers.length := by
  cases x <;> simp [State.dropReference, State.setBuffer]

/-- The oldest notice of a queue leaves it, and its reference is dropped (R132). -/
theorem State.BuffersOk.dropHead (h : s.BuffersOk) {p : Port} {x : Notice} {rest : List Notice}
    (head : (s.queues.get p).notices = x :: rest) (self : (t.queues.get p).notices = rest)
    (others : ∀ q, q ≠ p → (t.queues.get q).notices = (s.queues.get q).notices)
    (buffers : t.buffers = (s.dropReference x).buffers) : t.BuffersOk := by
  rw [State.buffersOk_iff] at h ⊢
  obtain ⟨length, each, inside⟩ := h
  have xInside : ∀ r, x = .report r → r.buffer < 16 := fun r hr =>
    inside p r (by rw [head, hr]; exact List.mem_cons_self)
  have heldNe : ∀ q i, q ≠ p → t.held q i = s.held q i := fun q i hq => by
    simp only [State.held, others q hq]
  have heldSelf : ∀ i, s.held p i = t.held p i + if x.refersTo i then 1 else 0 := fun i => by
    simp only [State.held, head, self, List.countP_cons]
  refine ⟨by rw [buffers, State.dropReference_buffers_length, length], fun i hi => ?_, fun q r mem => ?_⟩
  · obtain ⟨hrefs, hfree, hsingle, hshape⟩ := each i hi
    have refs := State.references_of_held (fun q hq => heldNe q i hq) (heldSelf i)
    have single : ∀ q, t.held q i ≤ 1 := fun q => by
      by_cases hq : q = p
      · have := hsingle q
        subst hq
        have := heldSelf i
        omega
      · exact heldNe q i hq ▸ hsingle q
    have buffer := s.dropReference_buffers x i length xInside
    rw [← buffers] at buffer
    split at buffer
    next dropped =>
      rw [if_pos dropped] at refs
      cases hb : s.buffers.getD i none with
      | none =>
        have : s.references i = 0 := hfree.1 (by simp only [hb]; rfl)
        omega
      | some b =>
        simp only [hb, Option.map_some, Option.getD_some] at hrefs
        simp only [hb, Option.bind_some, ReportBuffer.drop] at buffer
        have bShape := hshape b hb
        split at buffer
        · exact ⟨by simp only [buffer, Option.map_none, Option.getD_none]; omega,
            by simp only [buffer]; simp; omega, single, by simp only [buffer]; simp⟩
        · refine ⟨by simp only [buffer, Option.map_some, Option.getD_some]; omega,
            by simp only [buffer]; simp; omega, single, fun b' hb' => ?_⟩
          rw [buffer] at hb'
          cases hb'
          exact bShape
    next kept =>
      rw [if_neg kept, Nat.add_zero] at refs
      exact ⟨by rw [buffer, hrefs, refs], by rw [buffer, hfree, refs], single,
        by rw [buffer]; exact hshape⟩
  · by_cases hq : q = p
    · subst hq
      exact inside q r (by rw [head]; exact List.mem_cons_of_mem _ (self ▸ mem))
    · exact inside q r (others q hq ▸ mem)

/-- NEXT_EVENT keeps the references in agreement. -/
theorem State.BuffersOk.removeNotice (h : s.BuffersOk) (p : Port) : (s.removeNotice p).BuffersOk := by
  unfold State.removeNotice
  split
  next empty =>
    refine h.same ⟨by simp, fun q => ?_⟩
    by_cases hq : q = p
    · subst hq
      simp [EventQueue.next, empty]
    · simp [PerPort.get_set_ne _ hq]
  next x rest head =>
    refine h.dropHead (p := p) head (by simp [EventQueue.next, head]) (fun q hq => ?_) (by simp)
    simp [PerPort.get_set_ne _ hq]

/-- A queue that is flushed drops the references of all its notices (R133, R149). -/
theorem State.BuffersOk.flush (h : s.BuffersOk) {p : Port} {l : List Notice}
    (notices : (s.queues.get p).notices = l) :
    ((l.foldl State.dropReference s).onQueue p fun _ => .reset).BuffersOk := by
  induction l generalizing s with
  | nil =>
    refine h.same ⟨by simp, fun q => ?_⟩
    by_cases hq : q = p
    · subst hq
      simp [EventQueue.reset, notices]
    · simp [PerPort.get_set_ne _ hq]
  | cons x rest ih =>
    have dropped := h.dropHead (t := (s.dropReference x).onQueue p
      fun q => { q with notices := rest }) (p := p) notices (by simp)
      (fun q hq => by simp [PerPort.get_set_ne _ hq]) (by simp)
    have := ih dropped (by simp)
    refine this.same ⟨?_, fun q => ?_⟩
    · have same : ∀ (l : List Notice) (u v : State), u.buffers = v.buffers →
          (l.foldl State.dropReference u).buffers = (l.foldl State.dropReference v).buffers := by
        intro l
        induction l with
        | nil => exact fun _ _ h => h
        | cons y l ih =>
          intro u v h
          exact ih _ _ (by cases y <;> simp [State.dropReference, State.setBuffer, h])
      simpa using same rest _ _ (by simp)
    · by_cases hq : q = p
      · subst hq
        simp
      · simp [PerPort.get_set_ne _ hq]

theorem State.BuffersOk.tearDown (h : s.BuffersOk) (p : Port) (cause : TeardownCause) :
    (s.tearDown p cause).BuffersOk := by
  have leaving : (s.leaving p cause).BuffersOk :=
    h.same ⟨by simp [State.leaving], fun q => by simp⟩
  have left := leaving.same ((s.left_feeds p cause).storeSame (by simp [State.left]))
  have dropped : ((s.left p cause).dropSubscriptions p).BuffersOk := left.same ⟨rfl, fun q => rfl⟩
  have flushed := dropped.flush (p := p) rfl
  rw [State.tearDown_eq]
  exact flushed.same ⟨by simp [State.flushQueue], fun q => by simp [State.flushQueue]⟩

/-! ### A delivery -/

theorem StationEntry.Ok.subscribers_nodup {e : StationEntry} (h : e.Ok) :
    (e.subscribers.map Subscription.port).Nodup := by
  obtain ⟨-, -, -, order, -⟩ := h
  rw [List.Nodup, List.pairwise_map]
  refine order.imp fun hlt heq => ?_
  rw [heq] at hlt
  omega

/-- A report delivered to the entry's subscribers reaches the port's queue (R130). -/
def State.reaches (s : State) (e : StationEntry) (q : Port) : Bool :=
  decide (q ∈ e.subscribers.map Subscription.port) && s.admits q

/-- The notices of a delivered report: one at the end of each queue that admits it (R130). -/
theorem State.offerReport_notices (s : State) {e : StationEntry}
    (distinct : (e.subscribers.map Subscription.port).Nodup) (r : ReportNotice) (q : Port) :
    ((s.offerReport e.subscribers r).queues.get q).notices = (s.queues.get q).notices ∧
        s.reaches e q = false ∨
      ∃ gap, ((s.offerReport e.subscribers r).queues.get q).notices =
          (s.queues.get q).notices ++ [.report { r with gap := gap }] ∧ s.reaches e q = true := by
  rw [State.offerReport_queue s distinct]
  split
  next none =>
    rw [List.find?_eq_none] at none
    refine .inl ⟨rfl, ?_⟩
    have absent : q ∉ e.subscribers.map Subscription.port := fun mem => by
      obtain ⟨x, hx, rfl⟩ := List.mem_map.1 mem
      exact none x hx (by simp)
    simp only [State.reaches, absent, decide_false, Bool.false_and]
  next x found =>
    have member : q ∈ e.subscribers.map Subscription.port :=
      List.mem_map.2 ⟨x, List.mem_of_find?_eq_some found, by simpa using List.find?_some found⟩
    unfold State.reaches State.admits EventQueue.admits queueRoom
    simp only [member, decide_true, Bool.true_and]
    split
    next attached =>
      rcases (s.queues.get q).offer_cases (.report { r with gap := x.gap }) with ⟨room, h⟩ | ⟨full, h⟩
      · exact .inr ⟨x.gap, by rw [h], by simp [attached, room]⟩
      · exact .inl ⟨by rw [h], by simp; omega⟩
    next detached => exact .inl ⟨rfl, by simp [detached]⟩

/-- As many notices are admitted as there are queues of subscribers with room for one. -/
theorem State.countP_reaches (s : State) {e : StationEntry}
    (distinct : (e.subscribers.map Subscription.port).Nodup) :
    e.subscribers.countP (fun x => s.admits x.port) = Port.all.countP (s.reaches e) := by
  have perm : ((e.subscribers.map Subscription.port).filter s.admits).Perm
      (Port.all.filter (s.reaches e)) :=
    (List.perm_ext_iff_of_nodup (distinct.filter _) (List.Nodup.filter _ (by decide))).2
      fun q => by simp [State.reaches]
  have := perm.length_eq
  rw [← List.countP_eq_length_filter, ← List.countP_eq_length_filter, List.countP_map] at this
  exact this

theorem State.BuffersOk.deliverReport (h : s.BuffersOk) {e : StationEntry} {i : Nat} (ok : e.Ok)
    (free : s.freeBuffer? = some i) (payload : List Byte)
    (length : 1 ≤ payload.length ∧ payload.length ≤ 32) (noise : Bool) :
    (s.deliverReport e i payload noise).BuffersOk := by
  rw [State.buffersOk_iff] at h ⊢
  obtain ⟨size, each, inside⟩ := h
  obtain ⟨hi, empty, -⟩ := (s.freeBuffer?_eq_some i).1 free
  have distinct := ok.subscribers_nodup
  obtain ⟨station, -⟩ := ok
  generalize ht : s.deliverReport e i payload noise = t
  generalize hn : (⟨e.address, i, payload.length, noise, false⟩ : ReportNotice) = n
  have nBuffer : n.buffer = i := by rw [← hn]
  have queues : t.queues = (s.offerReport e.subscribers n).queues := by
    rw [← ht, ← hn]; simp [State.deliverReport]
  have buffers : ∀ j, t.buffers.getD j none =
      if j = i then
        (if e.subscribers.countP (fun x => s.admits x.port) = 0 then none else
          some ⟨e.address, payload, noise, e.subscribers.countP (fun x => s.admits x.port)⟩)
      else s.buffers.getD j none := by
    intro j
    rw [← ht]
    simp only [State.deliverReport, State.setBuffer, State.putStation, State.withDirectory_buffers,
      State.withBuffers_buffers, List.getD_eq_getElem?_getD, List.getElem?_set, hn,
      State.offerReport_frame]
    by_cases hj : i = j
    · subst hj; simp [hi]
    · simp [hj, Ne.symm hj]
  have heldNe : ∀ q j, j ≠ i → t.held q j = s.held q j := fun q j hj => by
    simp only [State.held, queues]
    rcases s.offerReport_notices distinct n q with ⟨eq, -⟩ | ⟨gap, eq, -⟩
    · rw [eq]
    · simp [eq, Notice.refersTo_report, nBuffer, Ne.symm hj]
  have zero : ∀ q, s.held q i = 0 := by
    have none := (each i (size ▸ hi)).free.1 (by rw [empty]; rfl)
    rw [State.references_eq] at none
    intro q
    cases q <;> omega
  have heldSelf : ∀ q, t.held q i = if s.reaches e q then 1 else 0 := fun q => by
    have z := zero q
    simp only [State.held, queues] at z ⊢
    rcases s.offerReport_notices distinct n q with ⟨eq, no⟩ | ⟨gap, eq, yes⟩
    · rw [eq, z, no]; rfl
    · rw [eq, List.countP_append, z, yes]
      simp [Notice.refersTo_report, nBuffer]
  have count : e.subscribers.countP (fun x => s.admits x.port) = t.references i := by
    rw [s.countP_reaches distinct, State.references_eq]
    simp only [heldSelf, Port.all, List.countP_cons, List.countP_nil, Nat.zero_add]
    ac_rfl
  refine ⟨by rw [← ht]; simp [State.deliverReport, State.setBuffer, size], fun j hj => ?_,
    fun q r mem => ?_⟩
  · by_cases hji : j = i
    · subst hji
      have buffer := buffers j
      rw [if_pos rfl, count] at buffer
      refine ⟨?_, ?_, fun q => ?_, ?_⟩
      · rw [buffer]; split <;> simp_all
      · rw [buffer]; split <;> simp_all
      · rw [heldSelf]; split <;> omega
      · intro b hb
        rw [buffer] at hb
        split at hb
        · cases hb
        · cases hb; exact ⟨station, length⟩
    · obtain ⟨hrefs, hfree, hsingle, hshape⟩ := each j hj
      have refs : t.references j = s.references j := by
        simp only [State.references_eq, heldNe _ j hji]
      have buffer := buffers j
      rw [if_neg hji] at buffer
      exact ⟨by rw [buffer, hrefs, refs], by rw [buffer, hfree, refs],
        fun q => heldNe q j hji ▸ hsingle q, by rw [buffer]; exact hshape⟩
  · rw [queues] at mem
    rcases s.offerReport_notices distinct n q with ⟨eq, -⟩ | ⟨gap, eq, -⟩
    · exact inside q r (eq ▸ mem)
    · rw [eq] at mem
      rcases List.mem_append.1 mem with mem | mem
      · exact inside q r mem
      · simp at mem
        rw [mem]
        simpa [nBuffer, size] using hi

/-! ### Happenings -/

/-- A directory and a store as R1 and R123 ask. -/
theorem State.StoreOk.judgeReport (h : s.StoreOk) (a : Nat) (sBit : Bool) {payload : List Byte}
    (length : 1 ≤ payload.length ∧ payload.length ≤ 32) (noise : Bool) :
    (s.judgeReport a sBit payload noise).StoreOk := by
  refine ⟨h.1.judgeReport a sBit payload noise, ?_⟩
  rcases s.judgeReport_cases a sBit payload noise with eq | ⟨e, found, eq | eq | ⟨i, free, eq⟩⟩
  · rw [eq]; exact h.2
  · rw [eq]; exact h.2
  · rw [eq]; exact h.2
  · rw [eq]; exact h.2.deliverReport (h.1.entry found) free payload length noise

/-- A report for the store is the payload of a REPORT reply (R89). -/
theorem judgeFrame_store {sent : MainKind} {sBit : Bool} {limit : Nat} {r : Reply}
    {x : Bool × List Byte × Bool} (h : (judgeFrame sent sBit limit r).store = some x) :
    r.kind = .report ∧ x = (r.sBit, r.payload, r.noise) := by
  unfold judgeFrame at h
  split at h <;> grind [Judgement.valid, Judgement.failed]

/-- A report comes from a REPORT reply that passed validation, with 1 to 32 bytes (R89, R114). -/
theorem judge_store_length {sent : MainKind} {sBit : Bool} {limit : Nat} {result : ExchangeResult}
    (ok : result.Ok) {x : Bool × List Byte × Bool} (h : (judge sent sBit limit result).store = some x) :
    1 ≤ x.2.1.length ∧ x.2.1.length ≤ 32 := by
  cases result with
  | frame r =>
    obtain ⟨length, -⟩ := ok
    obtain ⟨kind, rfl⟩ := judgeFrame_store h
    simpa [kind, FrameKind.allowsLength] using length
  | _ => cases h

theorem State.StoreOk.handResult (h : s.StoreOk) (x : Transaction) (sBit : Bool)
    {result : ExchangeResult} (ok : result.Ok) : (s.handResult x sBit result).StoreOk := by
  refine ⟨h.1.handResult x sBit result, ?_⟩
  obtain ⟨j, v, hj, hv, eq⟩ := s.handResult_cases x sBit result
  have told : (s.applyReport x.station j.report).StoreOk :=
    ⟨h.1.applyReport _ _, h.2.same ((s.applyReport_feeds _ _).storeSame (by simp))⟩
  have stored : v.BuffersOk := by
    have kept : ((s.applyReport x.station j.report).storeReport x.station j.store).BuffersOk := by
      cases hs : j.store with
      | none => exact told.2
      | some y => exact (told.judgeReport _ _ (judge_store_length ok (hj ▸ hs)) _).2
    rw [hv]
    exact kept.same ⟨by simp, fun q => by simp⟩
  rcases eq with ⟨-, -, eq⟩ | eq
  · rw [eq]; exact stored.same ⟨by simp, fun q => by simp⟩
  · rw [eq]; exact stored.same ((v.endAttempt_feeds x _).storeSame (by simp))

theorem State.StoreOk.endExchange (h : s.StoreOk) {result : ExchangeResult} (ok : result.Ok) :
    (s.endExchange result).StoreOk := by
  unfold State.endExchange
  dsimp only
  split
  · exact h
  · exact State.StoreOk.handResult (s := s.withEngine s.engine.enterGap) h _ _ ok

@[simp] theorem State.expire_buffers (s : State) (target : Nat) :
    (s.expire target).buffers = s.buffers := by
  rcases s.expire_cases target with ⟨-, h⟩ | ⟨c, -, h⟩
  · rw [h]
  · rw [h]; simp

theorem State.BuffersOk.takeEnd (h : s.BuffersOk) (x : TickEnd) : (s.takeEnd x).BuffersOk := by
  cases x with
  | expiry target => exact h.same ((s.expire_feeds target).storeSame (by simp))
  | lapse p => exact h.tearDown p .lapse

/-- No act touches a buffer but the removal of a notice and the teardown. -/
theorem Act.buffers {c : Instr} {p : Port} (act : Act c p s t) :
    t.buffers = s.buffers ∨ t = s.removeNotice p ∨ t = s.tearDown p .detach := by
  cases act with
  | nextEvent => exact .inr (.inl rfl)
  | detach => exact .inr (.inr rfl)
  | _ => exact .inl (by simp [State.renewClaim_eq])

theorem Act.buffersOk {c : Instr} {p : Port} (act : Act c p s t) (h : s.BuffersOk) :
    t.BuffersOk := by
  rcases act.feeds with feeds | ⟨body, -, rfl⟩ | ⟨body, lapse, -, rfl⟩ | ⟨body, -, rfl⟩
  · rcases act.buffers with eq | rfl | rfl
    · exact h.same (feeds.storeSame eq)
    · exact h.removeNotice p
    · exact h.tearDown p .detach
  · exact h.removeNotice p
  · exact h.same ⟨by simp, fun q => by simp⟩
  · exact h.tearDown p .detach

theorem Happening.buffersOk {c : Instr} (happening : Happening c s t) (h : s.StoreOk) :
    t.BuffersOk := by
  cases happening with
  | nothing => exact h.2
  | packet p _ _ u _ _ _ act =>
    have heard : (s.heard p).BuffersOk := h.2.same ⟨rfl, fun _ => rfl⟩
    exact (act.buffersOk heard).same ⟨by simp, fun q => by simp⟩
  | window => exact h.2.same ⟨by simp, fun q => by simp⟩
  | fragment => exact h.2.same ⟨by simp, fun q => by simp⟩
  | tick =>
    exact State.finishTick_induct State.BuffersOk (fun _ h => h) (fun _ x h => h.takeEnd x) _ _ h.2
  | expiry k =>
    exact h.2.same ((((s.reachClaim k.target).expire_feeds k.target).from_eq (by simp)
      (by simp)).storeSame (by simp))
  | lapse p =>
    have reached : (s.reachPort p).BuffersOk := h.2.same ⟨by simp, fun q => by simp⟩
    exact reached.tearDown p .lapse
  | reset => exact State.BuffersOk.same (s := State.reset) (by decide) ⟨rfl, fun _ => rfl⟩
  | resetEnds => exact h.2
  | engine => exact h.2
  | ends e result ends => exact (State.StoreOk.endExchange (s := s.withEngine e) h ends.valid).2
  | gapEnd =>
    have feeds := (State.resumeTransaction_feeds (s.withEngine s.engine.enterIdle)).trans
      (State.select_feeds _)
    exact h.2.same ((feeds.from_eq (s := s) rfl rfl).storeSame (by simp))

/-- Settles O56: feeding keeps every reference, and NEXT_EVENT, a delivery and a teardown change the
counts with the notices. -/
theorem stepsKeepTheReferences : Obligations.StepsKeepTheReferences := fun _ _ ok h =>
  step_keeps State.StoreOk (fun _ _ h => h)
    (fun _ _ _ ok h => ⟨(exec_happens h).directoryOk ok.1, (exec_happens h).buffersOk ok⟩) ok h

end

end Sys2Proof.Machine

/-! The accounts of the ports: a queue's units are one for each slot its port owns, one for each claim it
holds and two for each wait, and only attached ports own anything (R137, R139, R164). The accounts of a
port that is being torn down are set aside, and a holder that has given up its unit is one unit in
debt until its claim is passed on. -/

namespace Sys2Proof.Machine

/-! ### Counts over a changed table -/

section
variable {α : Type} {key : α → Nat} {t : List α}

/-- A new entry of a table is counted besides the others. -/
theorem countP_tablePut_new (f : α → Bool) (x : α) (fresh : ∀ y ∈ t, key y ≠ key x) :
    (tablePut key x t).countP f = t.countP f + if f x then 1 else 0 := by
  induction t with
  | nil => simp [tablePut, List.countP_cons]
  | cons y t ih =>
    have hy := fresh y (by simp)
    unfold tablePut
    split
    · simp only [List.countP_cons]
    · rw [if_neg (Ne.symm hy)]
      simp only [List.countP_cons, ih (fun z hz => fresh z (by simp [hz]))]
      omega

/-- An entry that takes another's place is counted in its stead. -/
theorem countP_tablePut_mem (h : Rising key t) (f : α → Bool) {x y : α} (hy : y ∈ t)
    (hk : key y = key x) :
    (tablePut key x t).countP f + (if f y then 1 else 0) =
      t.countP f + if f x then 1 else 0 := by
  induction t with
  | nil => cases hy
  | cons z t ih =>
    obtain ⟨below, rising⟩ := List.pairwise_cons.1 h
    unfold tablePut
    rcases List.mem_cons.1 hy with rfl | mem
    · rw [if_neg (by omega), if_pos hk.symm]
      simp only [List.countP_cons]
      omega
    · have := below y mem
      rw [if_neg (by omega), if_neg (by omega)]
      have := ih rising mem
      simp only [List.countP_cons]
      omega

/-- An entry that leaves its table is counted no more. -/
theorem countP_tableDrop_mem (h : Rising key t) (f : α → Bool) {y : α} (hy : y ∈ t) :
    (tableDrop key (key y) t).countP f + (if f y then 1 else 0) = t.countP f := by
  induction t with
  | nil => cases hy
  | cons z t ih =>
    obtain ⟨below, rising⟩ := List.pairwise_cons.1 h
    rcases List.mem_cons.1 hy with rfl | mem
    · have rest : t.filter (fun x => key x != key y) = t :=
        List.filter_eq_self.2 fun x hx => by have := below x hx; simp; omega
      simp [tableDrop, rest, List.countP_cons]
    · have := below y mem
      have := ih rising mem
      have ne : (key z != key y) = true := by simp; omega
      simp only [tableDrop, List.filter_cons, ne, if_true, List.countP_cons] at this ⊢
      omega

end

/-! ### The account of one queue -/

/-- R137, R144, R148: the ranges of a queue and its ATTN, and the emptiness of a detached port's. -/
structure EventQueue.Sound (attached : Bool) (q : EventQueue) : Prop where
  missed : q.missed ≤ 255
  attn : q.attn = (attached && !q.notices.isEmpty)
  detached : attached = false → q = .reset
  room : q.sum ≤ 16

theorem EventQueue.Sound.reset (attached : Bool) : EventQueue.reset.Sound attached := by
  cases attached <;> exact ⟨by decide, by decide, fun _ => rfl, by decide⟩

section
variable {q : EventQueue}

theorem EventQueue.Sound.offer (h : q.Sound true) (x : Notice) : (q.offer x).Sound true := by
  obtain ⟨missed, attn, -, room⟩ := h
  rcases q.offer_cases x with ⟨space, eq⟩ | ⟨-, eq⟩
  · rw [eq]
    refine ⟨missed, by simp, nofun, ?_⟩
    simp only [EventQueue.sum, List.length_append, List.length_singleton] at space ⊢
    omega
  · rw [eq]
    exact ⟨Nat.min_le_left .., attn, nofun, room⟩

@[simp] theorem EventQueue.offer_reserved (q : EventQueue) (x : Notice) :
    (q.offer x).reserved = q.reserved := by
  rcases q.offer_cases x with ⟨-, eq⟩ | ⟨-, eq⟩ <;> rw [eq]

theorem EventQueue.Sound.convert (h : q.Sound true) (unit : 1 ≤ q.reserved) (x : Notice) :
    (q.convert x).Sound true := by
  obtain ⟨missed, -, -, room⟩ := h
  refine ⟨missed, by simp [EventQueue.convert, EventQueue.push], nofun, ?_⟩
  simp only [EventQueue.sum, EventQueue.convert, EventQueue.push, List.length_append,
    List.length_singleton] at room ⊢
  omega

theorem EventQueue.Sound.reserve (h : q.Sound true) {n : Nat} (room : q.notices.length + n ≤ 16) :
    EventQueue.Sound true { q with reserved := n } := ⟨h.missed, h.attn, nofun, room⟩

theorem EventQueue.Sound.next (h : q.Sound true) : q.next.Sound true := by
  obtain ⟨-, -, -, room⟩ := h
  refine ⟨by simp [EventQueue.next], by simp [EventQueue.next], nofun, ?_⟩
  simp only [EventQueue.sum, EventQueue.next, List.length_tail] at room ⊢
  omega

end

/-! ### The accounts of the ports -/

/-- The units that a port's queue owes to what the port owns (R139). -/
def State.owed (s : State) (q : Port) : Nat :=
  s.slotsOwned q + s.claimsHeld q + 2 * s.claimsWaited q

/-- The accounts agree but for the ports set aside, which have no session, and for the units that a
port in debt has given up already. -/
structure State.Accounts (s : State) (aside : Port → Prop) (debt : Port → Nat) : Prop where
  shape : s.ClaimsShape
  detached : ∀ q, aside q → s.isAttached q = false
  sound : ∀ q, ¬ aside q → (s.queues.get q).Sound (s.isAttached q)
  units : ∀ q, ¬ aside q → (s.queues.get q).reserved + debt q = s.owed q
  holders : ∀ c ∈ s.claims, ¬ aside c.holder → s.isAttached c.holder = true
  waiters : ∀ c ∈ s.claims, ∀ w ∈ c.waiters, ¬ aside w.port → s.isAttached w.port = true
  owners : ∀ x ∈ s.slots, ∀ q, x.owner? = some q → s.isAttached q = true
  subscribers : ∀ e ∈ s.directory, ∀ x ∈ e.subscribers, ¬ aside x.port → s.isAttached x.port = true
  requester : ∀ q ∈ s.scheduler.requester, ¬ aside q → s.isAttached q = true
  lists : s.ListsOwn

/-- No port is set aside, and none is in debt. -/
abbrev State.Settled (s : State) : Prop := s.Accounts (fun _ => False) (fun _ => 0)

section
variable {s t : State} {aside : Port → Prop} {debt debt' : Port → Nat}

theorem State.accountsOk_iff (s : State) :
    s.AccountsOk ↔ s.ClaimsOk ∧ s.Settled ∧ s.SourceOnLine := by
  constructor
  · rintro ⟨claims, attn, room, ⟨claimants, owners, subscribers, requester⟩, lists, source⟩
    exact ⟨claims,
      { shape := ((State.claimsOk_iff s).1 claims).1
        detached := fun _ h => h.elim
        sound := fun q _ =>
          ⟨(attn q (by simp)).1, (attn q (by simp)).2.1, (attn q (by simp)).2.2, (room q (by simp)).1⟩
        units := fun q _ => by simpa [State.owed] using (room q (by simp)).2
        holders := fun c hc _ => (claimants c hc).1
        waiters := fun c hc w hw _ => (claimants c hc).2 w hw
        owners := fun x hx q hq => owners x hx q hq
        subscribers := fun e he x hx _ => subscribers e he x hx
        requester := fun q hq _ => requester q hq
        lists := lists }, source⟩
  · rintro ⟨claims, h, source⟩
    exact ⟨claims,
      fun q _ => ⟨(h.sound q id).missed, (h.sound q id).attn, (h.sound q id).detached⟩,
      fun q _ => ⟨(h.sound q id).room, by simpa [State.owed] using h.units q id⟩,
      ⟨fun c hc => ⟨h.holders c hc id, fun w hw => h.waiters c hc w hw id⟩,
        fun x hx q hq => h.owners x hx q hq, fun e he x hx => h.subscribers e he x hx id,
        fun q hq => h.requester q hq id⟩,
      h.lists, source⟩

theorem State.owed_congr (slots : t.slots = s.slots) (claims : t.claims = s.claims) (q : Port) :
    t.owed q = s.owed q := by
  simp only [State.owed, State.slotsOwned, State.claimsHeld, State.claimsWaited, slots, claims]

theorem State.slot_congr (slots : t.slots = s.slots) (i : Nat) : t.slot i = s.slot i := by
  simp only [State.slot, slots]

/-- What the accounts do not rest on may change; of a port record they rest on the session alone. -/
theorem State.Accounts.sameSessions (h : s.Accounts aside debt) (claims : t.claims = s.claims)
    (sessions : ∀ q, t.isAttached q = s.isAttached q) (queues : t.queues = s.queues) (slots : t.slots = s.slots)
    (lists : t.lists = s.lists) (directory : t.directory = s.directory)
    (requester : t.scheduler.requester = s.scheduler.requester ∨ t.scheduler.requester = none) :
    t.Accounts aside debt where
  shape := h.shape.of_eq claims
  detached q hq := by rw [sessions]; exact h.detached q hq
  sound q hq := by rw [queues, sessions]; exact h.sound q hq
  units q hq := by rw [queues, State.owed_congr slots claims]; exact h.units q hq
  holders c hc hq := by
    rw [sessions]; exact h.holders c (claims ▸ hc) hq
  waiters c hc w hw hq := by
    rw [sessions]; exact h.waiters c (claims ▸ hc) w hw hq
  owners x hx q hq := by rw [sessions]; exact h.owners x (slots ▸ hx) q hq
  subscribers e he x hx hq := by
    rw [sessions]; exact h.subscribers e (directory ▸ he) x hx hq
  requester q hq hout := by
    rw [sessions]
    rcases requester with eq | eq
    · exact h.requester q (eq ▸ hq) hout
    · rw [eq] at hq; cases hq
  lists p hp i hi := by
    rw [State.slot_congr slots]
    exact h.lists p hp i (lists ▸ hi)

theorem State.Accounts.same (h : s.Accounts aside debt) (claims : t.claims = s.claims)
    (records : t.records = s.records) (queues : t.queues = s.queues) (slots : t.slots = s.slots)
    (lists : t.lists = s.lists) (directory : t.directory = s.directory)
    (requester : t.scheduler.requester = s.scheduler.requester ∨ t.scheduler.requester = none) :
    t.Accounts aside debt :=
  h.sameSessions claims (State.isAttached_congr records) queues slots lists directory requester

/-! ### Queues -/

@[simp] theorem State.onQueue_isAttached (s : State) (p q : Port) (f : EventQueue → EventQueue) :
    (s.onQueue p f).isAttached q = s.isAttached q := rfl

@[simp] theorem State.onQueue_owed (s : State) (p q : Port) (f : EventQueue → EventQueue) :
    (s.onQueue p f).owed q = s.owed q := rfl

/-- One queue is changed to a sound one with the same units. -/
theorem State.Accounts.queue (h : s.Accounts aside debt) {p : Port} {f : EventQueue → EventQueue}
    (sound : ¬ aside p → (s.queues.get p).Sound (s.isAttached p) →
      (f (s.queues.get p)).Sound (s.isAttached p))
    (units : ¬ aside p → (f (s.queues.get p)).reserved + debt' p = s.owed p)
    (others : ∀ q, q ≠ p → debt' q = debt q) :
    (s.onQueue p f).Accounts aside debt' where
  shape := h.shape.of_eq (by simp)
  detached q hq := h.detached q hq
  sound q hq := by
    rw [State.onQueue_isAttached, State.onQueue_queues, PerPort.get_set]
    split
    next eq => subst eq; exact sound hq (h.sound q hq)
    next => exact h.sound q hq
  units q hq := by
    rw [State.onQueue_owed, State.onQueue_queues, PerPort.get_set]
    split
    next eq => subst eq; exact units hq
    next ne => simp only [others q ne]; exact h.units q hq
  holders := h.holders
  waiters := h.waiters
  owners := h.owners
  subscribers := h.subscribers
  requester := h.requester
  lists := h.lists

theorem State.Accounts.offer (h : s.Accounts aside debt) (p : Port) (x : Notice) :
    (s.offer p x).Accounts aside debt := by
  unfold State.offer
  split
  next attached =>
    refine h.queue (fun _ sound => ?_) (fun hp => ?_) fun _ _ => rfl
    · rw [attached] at sound ⊢; exact sound.offer x
    · simpa using h.units p hp
  next => exact h

theorem State.Accounts.offerEach (h : s.Accounts aside debt) (ps : List Port) (x : Notice) :
    (s.offerEach ps x).Accounts aside debt := by
  induction ps generalizing s with
  | nil => exact h
  | cons p ps ih => exact ih (h.offer p x)

/-- A unit of an attached port converts into a notice; the port owns one thing the less then, or is in
debt (R141). -/
theorem State.Accounts.convert (h : s.Accounts aside debt) {p : Port} (x : Notice)
    (attached : s.isAttached p = true) (owes : debt p < s.owed p) :
    (s.convert p x).Accounts aside (fun q => if q = p then debt p + 1 else debt q) := by
  unfold State.convert
  rw [if_pos attached]
  refine h.queue (fun hp sound => ?_) (fun hp => ?_) fun q hq => by simp [hq]
  · have := h.units p hp
    rw [attached] at sound ⊢
    exact sound.convert (by omega) x
  · have := h.units p hp
    simp [EventQueue.convert, EventQueue.push]
    omega

/-! ### Slots and lists -/

theorem State.slot_eq_getElem {i : Nat} (inside : i < s.slots.length) : s.slot i = s.slots[i] := by
  simp [State.slot, inside]

theorem State.inside_of_slot {i : Nat} (h : s.slot i ≠ .free) : i < s.slots.length := by
  by_contra outside
  exact h (by simp [State.slot, Nat.not_lt.1 outside])

theorem State.slot_mem {i : Nat} (h : s.slot i ≠ .free) : s.slot i ∈ s.slots := by
  have inside := State.inside_of_slot h
  rw [State.slot_eq_getElem inside]
  exact List.getElem_mem inside

theorem State.Accounts.owner (h : s.Accounts aside debt) {i : Nat} {q : Port}
    (owner : (s.slot i).owner? = some q) : s.isAttached q = true :=
  h.owners _ (State.slot_mem (by rintro free; simp [free, Slot.owner?] at owner)) q owner

theorem State.setSlot_slot {i : Nat} (inside : i < s.slots.length) (x : Slot) (j : Nat) :
    (s.setSlot i x).slot j = if j = i then x else s.slot j := by
  simp only [State.slot, State.setSlot, State.withSlots_slots, List.getD_eq_getElem?_getD,
    List.getElem?_set]
  by_cases h : i = j
  · subst h; simp [inside]
  · simp [h, Ne.symm h]

/-- A port owns a slot that it is given, and no longer one that is taken from it. -/
theorem State.setSlot_slotsOwned {i : Nat} (inside : i < s.slots.length) (x : Slot) (q : Port) :
    (s.setSlot i x).slotsOwned q + (if (s.slot i).owner? = some q then 1 else 0) =
      s.slotsOwned q + if x.owner? = some q then 1 else 0 := by
  have counted : (s.slot i).owner? = some q → 0 < s.slotsOwned q := fun h =>
    List.countP_pos_iff.2 ⟨s.slot i, State.slot_mem (by rintro free; simp [free, Slot.owner?] at h),
      by simpa using h⟩
  simp only [State.slotsOwned, State.setSlot, State.withSlots_slots, List.countP_set inside] at counted ⊢
  rw [State.slot_eq_getElem inside] at counted ⊢
  simp only [decide_eq_true_eq]
  split
  next h => have := counted h; omega
  next => omega

/-- One slot is changed, with its port's debt where it changes hands. -/
theorem State.Accounts.slot (h : s.Accounts aside debt) {i : Nat} {x : Slot}
    (inside : i < s.slots.length)
    (owner : ∀ q, x.owner? = some q → s.isAttached q = true)
    (listed : ∀ p, i ∈ s.lists.get p → x.isPendingOf p = true)
    (units : ∀ q, debt' q + (if (s.slot i).owner? = some q then 1 else 0) =
      debt q + if x.owner? = some q then 1 else 0) :
    (s.setSlot i x).Accounts aside debt' where
  shape := h.shape.of_eq (by simp)
  detached := h.detached
  sound := h.sound
  units q hq := by
    have account := h.units q hq
    have owned := State.setSlot_slotsOwned inside x q
    have moved := units q
    have claims : (s.setSlot i x).claimsHeld q = s.claimsHeld q ∧
        (s.setSlot i x).claimsWaited q = s.claimsWaited q := ⟨rfl, rfl⟩
    have queues : (s.setSlot i x).queues = s.queues := rfl
    simp only [State.owed, claims, queues] at account ⊢
    omega
  holders := h.holders
  waiters := h.waiters
  owners y hy q hq := by
    rcases List.mem_or_eq_of_mem_set hy with hy | rfl
    · exact h.owners y hy q hq
    · exact owner q hq
  subscribers := h.subscribers
  requester := h.requester
  lists p hp j hj := by
    rw [State.setSlot_slot inside]
    split
    next eq => exact listed p (eq ▸ hj)
    next => exact h.lists p hp j hj

theorem State.setSlot_self (s : State) (i : Nat) : s.setSlot i (s.slot i) = s := by
  have same : s.slots.set i (s.slot i) = s.slots := by
    by_cases inside : i < s.slots.length
    · rw [State.slot_eq_getElem inside, List.set_getElem_self]
    · exact List.set_eq_of_length_le (Nat.not_lt.1 inside)
  unfold State.setSlot
  rw [same]
  rfl

/-- A write to the slot on the line leaves owners and states as they are (R51). -/
theorem State.Accounts.writeSlot (h : s.Accounts aside debt) (i : Nat) (f : Request → Request) :
    (s.writeSlot i f).Accounts aside debt := by
  unfold State.writeSlot
  by_cases free : s.slot i = .free
  · refine h.same rfl rfl rfl ?_ rfl rfl (.inl rfl)
    have := congrArg State.slots (s.setSlot_self i)
    rw [free] at this ⊢
    exact this
  · have owner : ∀ x : Slot, (x.onLine f).owner? = x.owner? := fun x => by cases x <;> rfl
    refine h.slot (State.inside_of_slot free) (fun q hq => ?_) (fun p hp => ?_) fun q => ?_
    · exact h.owner (owner _ ▸ hq)
    · have := h.lists p (by simp) i hp
      cases hs : s.slot i <;> simp_all [Slot.onLine, Slot.isPendingOf]
    · rw [owner]

/-- A slot on no pending list ends its request: its unit has become the COMPLETION, or there is neither
(R56, R57). -/
theorem State.Accounts.endRequest (h : s.Accounts aside fun _ => 0) {i : Nat} (status : CompletionStatus)
    (unlisted : ∀ p, i ∉ s.lists.get p) : (s.endRequest i status).Accounts aside fun _ => 0 := by
  have ends : ∀ p r, (s.slot i = .pending p r ∨ s.slot i = .active p r) →
      ((s.convert p (.completion (s.completionOf i r status))).setSlot i .free).Accounts aside
        fun _ => 0 := by
    intro p r slot
    have inUse : s.slot i ≠ .free := by rcases slot with slot | slot <;> simp [slot]
    have owner : (s.slot i).owner? = some p := by
      rcases slot with slot | slot <;> simp [slot, Slot.owner?]
    have attached := h.owner owner
    have owes : 0 < s.owed p := by
      have : 0 < s.slotsOwned p := List.countP_pos_iff.2 ⟨_, State.slot_mem inUse, by simpa using owner⟩
      unfold State.owed
      omega
    have converted := h.convert (.completion (s.completionOf i r status)) attached owes
    have same : (s.convert p (.completion (s.completionOf i r status))).slots = s.slots := by simp
    refine converted.slot (by rw [same]; exact State.inside_of_slot inUse) nofun
      (fun q hq => absurd hq (by simpa using unlisted q)) fun q => ?_
    rw [State.slot_congr same, owner]
    simp [Slot.owner?, eq_comm]
  rcases s.endRequest_cases i status with ⟨-, eq⟩ | ⟨p, r, slot, eq⟩ | ⟨r, slot, eq⟩
  · rw [eq]; exact h
  · rw [eq]; exact ends p r slot
  · rw [eq]
    refine h.slot (State.inside_of_slot (by simp [slot])) nofun
      (fun q hq => absurd hq (unlisted q)) fun q => by simp [slot, Slot.owner?]

/-- A list is changed to one of the port's PENDING slots. -/
theorem State.Accounts.list (h : s.Accounts aside debt) {p : Port} {f : List Nat → List Nat}
    (own : ∀ i ∈ f (s.lists.get p), (s.slot i).isPendingOf p = true) :
    (s.onList p f).Accounts aside debt where
  shape := h.shape.of_eq (by simp)
  detached := h.detached
  sound := h.sound
  units := h.units
  holders := h.holders
  waiters := h.waiters
  owners := h.owners
  subscribers := h.subscribers
  requester := h.requester
  lists q hq i hi := by
    simp only [State.onList, State.withLists_lists, PerPort.get_set] at hi
    split at hi
    next eq => subst eq; exact own i hi
    next => exact h.lists q hq i hi

theorem State.Accounts.unlist (h : s.Accounts aside debt) (p : Port) (i : Nat) :
    (s.unlist p i).Accounts aside debt :=
  h.list fun j hj => h.lists p (by simp) j (List.mem_filter.1 hj).1

/-- A PENDING slot of a port stands on no other port's list. -/
theorem State.ListsOwn.only {s : State} (h : s.ListsOwn) {p : Port} {i : Nat} {r : Request}
    (slot : s.slot i = .pending p r) {q : Port} (listed : i ∈ s.lists.get q) : q = p := by
  have := h q (by simp) i listed
  rw [slot] at this
  exact (by simpa [Slot.isPendingOf] using this : p = q).symm

/-- A slot on the line, or a FREE one, stands on no list. -/
theorem State.ListsOwn.unlisted {s : State} (h : s.ListsOwn) {i : Nat}
    (off : ∀ p, (s.slot i).isPendingOf p = false) (p : Port) : i ∉ s.lists.get p := by
  intro listed
  have := h p (by simp) i listed
  rw [off p] at this
  cases this

/-- A PENDING slot that leaves its port's list is on none. -/
theorem State.ListsOwn.unlist {s : State} (h : s.ListsOwn) {p : Port} {i : Nat} {r : Request}
    (slot : s.slot i = .pending p r) (q : Port) : i ∉ (s.unlist p i).lists.get q := by
  simp only [State.unlist, State.onList, State.withLists_lists, PerPort.get_set]
  split
  · simp
  next ne => exact fun listed => ne (h.only slot listed)

/-! ### Selections -/

theorem State.Accounts.endSweep (h : s.Accounts aside debt) : s.endSweep.Accounts aside debt := by
  have off : (s.withScheduler { s.scheduler with mode := .off, requester := none }).Accounts aside debt :=
    h.same rfl rfl rfl rfl rfl rfl (.inr rfl)
  unfold State.endSweep
  dsimp only
  split
  · exact off.offer _ _
  · exact off

theorem State.Accounts.sweepSearch (h : s.Accounts aside debt) : s.sweepSearch.Accounts aside debt := by
  unfold State.sweepSearch
  split
  · exact h.endSweep
  · exact h

theorem State.Accounts.countAttempt (h : s.Accounts aside debt) (source : Source) :
    (s.countAttempt source).Accounts aside debt := by
  cases source with
  | request i => exact h.writeSlot i _
  | visit => exact h

theorem State.Accounts.beginAttempt (h : s.Accounts aside debt) (x : Transaction) :
    (s.beginAttempt x).Accounts aside debt := by
  unfold State.beginAttempt
  dsimp only
  split
  · exact (h.countAttempt x.source).same rfl rfl rfl rfl rfl rfl (.inl rfl)
  · exact (h.countAttempt x.source).same rfl rfl rfl rfl rfl rfl (.inl rfl)

/-- The choice of a PENDING slot: it leaves its port's list. -/
theorem State.Accounts.takeChoice (h : s.Accounts aside debt) (p : Port) (i : Nat) :
    (s.takeChoice p i).Accounts aside debt :=
  (h.unlist p i).same rfl rfl rfl rfl rfl rfl (.inl rfl)

theorem State.Accounts.select (h : s.Accounts aside fun _ => 0) : s.select.Accounts aside fun _ => 0 := by
  unfold State.select
  split
  · refine State.choose_cases (fun u => u.Accounts aside fun _ => 0)
      (fun u => u.Accounts aside fun _ => 0)
      ?_ ?_ ?_ (fun u h _ _ => h) _ _ (by simp) h.sweepSearch
    · intro u p i q r h candidate slot _
      obtain rfl : p = q := h.lists.only slot (State.candidate?_some candidate).1
      exact (h.takeChoice p i).endRequest _ (h.lists.unlist slot)
    · intro u a credit h _
      unfold State.beginVisit
      refine State.Accounts.beginAttempt ?_ _
      exact State.Accounts.same h rfl rfl rfl rfl rfl rfl (.inl rfl)
    · intro u p i q r h candidate slot _
      obtain rfl : p = q := h.lists.only slot (State.candidate?_some candidate).1
      have same : (u.takeChoice p i).slots = u.slots := by simp
      have chosen := (h.takeChoice p i).slot (i := i) (debt' := fun _ => 0)
        (x := .active p
          { r with retryBudget := some (r.retryBudget.getD (u.takeChoice p i).engine.active.retryBudget) })
        (by rw [same]; exact State.inside_of_slot (by simp [slot]))
        (fun q hq => h.owner (i := i) (by simpa [slot, Slot.owner?] using hq))
        (fun q hq => absurd hq (h.lists.unlist slot q))
        (fun q => by rw [State.slot_congr same, slot]; simp [Slot.owner?])
      unfold State.beginRequest
      refine State.Accounts.beginAttempt ?_ _
      exact State.Accounts.same chosen rfl rfl rfl rfl rfl rfl (.inl rfl)
  · exact h

theorem State.Accounts.selectIf (h : s.Accounts aside fun _ => 0) (b : Bool) :
    (s.selectIf b).Accounts aside fun _ => 0 := by
  cases b with
  | false => exact h
  | true => exact h.select

/-! ### Claims -/

/-- Who holds and who waits for the claims, where one record leaves the table. -/
theorem State.owed_dropClaim (rising : Rising ClaimRecord.target s.claims) {c : ClaimRecord}
    (mem : c ∈ s.claims) (alone : c.waiters = []) (q : Port) :
    (s.withClaims (tableDrop ClaimRecord.target c.target s.claims)).owed q +
      (if c.holder = q then 1 else 0) = s.owed q := by
  have held := countP_tableDrop_mem rising (fun d => decide (d.holder = q)) mem
  have waited := countP_tableDrop_mem rising (fun d => d.waiters.any fun w => decide (w.port = q)) mem
  simp only [alone, decide_eq_true_eq, List.any_nil, Bool.false_eq_true, if_false] at held waited
  simp only [State.owed, State.slotsOwned, State.claimsHeld, State.claimsWaited, State.withClaims_slots,
    State.withClaims_claims] at held waited ⊢
  omega

/-- Who holds and who waits for the claims, where one record takes another's place. -/
theorem State.owed_putClaim (rising : Rising ClaimRecord.target s.claims) {c d : ClaimRecord}
    (mem : c ∈ s.claims) (target : c.target = d.target) (q : Port) :
    (s.putClaim d).owed q + ((if c.holder = q then 1 else 0) +
        2 * if c.waiters.any (fun w => decide (w.port = q)) then 1 else 0) =
      s.owed q + ((if d.holder = q then 1 else 0) +
        2 * if d.waiters.any (fun w => decide (w.port = q)) then 1 else 0) := by
  have held := countP_tablePut_mem rising (fun d => decide (d.holder = q)) mem target
  have waited :=
    countP_tablePut_mem rising (fun d => d.waiters.any fun w => decide (w.port = q)) mem target
  simp only [decide_eq_true_eq] at held
  simp only [State.owed, State.slotsOwned, State.claimsHeld, State.claimsWaited, State.putClaim,
    State.withClaims_slots, State.withClaims_claims] at held waited ⊢
  omega

/-- The Claim Table is changed, with what its ports owe and are in debt with. -/
theorem State.Accounts.claims (h : s.Accounts aside debt) {l : List ClaimRecord}
    (shape : (s.withClaims l).ClaimsShape)
    (holders : ∀ c ∈ l, ¬ aside c.holder → s.isAttached c.holder = true)
    (waiters : ∀ c ∈ l, ∀ w ∈ c.waiters, ¬ aside w.port → s.isAttached w.port = true)
    (units : ∀ q, ¬ aside q → debt' q + s.owed q = debt q + (s.withClaims l).owed q) :
    (s.withClaims l).Accounts aside debt' where
  shape := shape
  detached := h.detached
  sound := h.sound
  units q hq := by
    have account := h.units q hq
    have moved := units q hq
    simp only [State.withClaims_queues]
    omega
  holders := holders
  waiters := waiters
  owners := h.owners
  subscribers := h.subscribers
  requester := h.requester
  lists := h.lists

/-- The record as its first waiter takes it over (R33). -/
def ClaimRecord.takenBy (c : ClaimRecord) (w : Waiter) (rest : List Waiter) : ClaimRecord :=
  { c with holder := w.port, remaining := w.duration, waiters := rest }

/-- A claim is passed on by a holder that has given up its unit already, or is set aside (R33). -/
theorem State.Accounts.passClaim {c : ClaimRecord} (h : s.Accounts aside debt) (mem : c ∈ s.claims)
    (holder : ∀ q, ¬ aside q → debt q = if c.holder = q then 1 else 0)
    (waiters : ∀ w ∈ c.waiters, ¬ aside w.port) :
    (s.passClaim c).Accounts aside fun _ => 0 := by
  have rising := h.shape.rising
  have shape : (s.passClaim c).ClaimsShape :=
    h.shape.filterMap (State.passClaim_claims rising mem) fun x hx _ hy =>
      ClaimRecord.passedAt_some hy (h.shape.each x hx)
  obtain ⟨-, -, -, distinct, others, -⟩ := h.shape.each c mem
  unfold State.passClaim at shape ⊢
  split at shape
  next alone =>
    refine h.claims shape (fun d hd => h.holders d (List.mem_filter.1 hd).1)
      (fun d hd => h.waiters d (List.mem_filter.1 hd).1) fun q hq => ?_
    have := State.owed_dropClaim rising mem alone q
    have := holder q hq
    omega
  next w rest first =>
    have wPort : c.holder ≠ w.port := (others w (by simp [first])).symm
    have wFree : ¬ aside w.port := waiters w (by simp [first])
    have wAttached := h.waiters c mem w (by simp [first]) wFree
    have gone : rest.any (fun v => decide (v.port = w.port)) = false := by
      rw [first, List.map_cons, List.nodup_cons] at distinct
      simpa using fun v hv eq => distinct.1 (List.mem_map.2 ⟨v, hv, eq⟩)
    have owes := State.owed_putClaim (d := c.takenBy w rest) rising mem rfl
    simp only [first, ClaimRecord.takenBy, List.any_cons, Bool.or_eq_true, decide_eq_true_eq] at owes
    have converted := h.convert (.claimGranted c.target w.duration) wAttached (by
      have := owes w.port
      have := holder w.port wFree
      simp [wPort, gone] at *
      omega)
    have attachedSame : ∀ q, (s.convert w.port (.claimGranted c.target w.duration)).isAttached q =
        s.isAttached q := fun q => State.isAttached_congr (by simp) q
    have table := converted.claims (l := tablePut ClaimRecord.target (c.takenBy w rest) s.claims)
      (debt' := fun _ => 0) (shape.of_eq (by simp [ClaimRecord.takenBy, State.putClaim]))
      (fun d hd hq => by
        rw [attachedSame]
        rcases mem_tablePut hd with rfl | hd
        · exact wAttached
        · exact h.holders d hd hq)
      (fun d hd v hv hq => by
        rw [attachedSame]
        rcases mem_tablePut hd with rfl | hd
        · exact h.waiters c mem v (by simp only [ClaimRecord.takenBy] at hv; simp [first, hv]) hq
        · exact h.waiters d hd v hv hq)
      (fun q hq => by
        have account := owes q
        have debtor := holder q hq
        have before : (s.convert w.port (.claimGranted c.target w.duration)).owed q = s.owed q :=
          State.owed_congr (by simp) (by simp) q
        have after : ((s.convert w.port (.claimGranted c.target w.duration)).withClaims
            (tablePut ClaimRecord.target (c.takenBy w rest) s.claims)).owed q =
              (s.putClaim (c.takenBy w rest)).owed q :=
          State.owed_congr (by simp [State.putClaim]) (by simp [State.putClaim]) q
        rw [before, after]
        simp only [ClaimRecord.takenBy]
        by_cases eq : q = w.port
        · subst eq
          simp [wPort, gone] at account debtor
          simp
          omega
        · simp [Ne.symm eq] at account
          simp [eq]
          omega)
    refine table.same ?_ ?_ ?_ ?_ ?_ ?_ (.inl ?_)
    case refine_3 =>
      rw [State.convert_of_attached _ wAttached,
        State.convert_of_attached _ (by simpa [State.isAttached] using wAttached)]
      simp [State.converted]
    all_goals simp [ClaimRecord.takenBy, State.putClaim]

/-- The holder of a claim leaves it: its unit is given up already, or it is set aside (R33). -/
theorem State.Accounts.holderLeaves {c : ClaimRecord} (h : s.Accounts aside debt)
    (found : s.claim? c.target = some c)
    (holder : ∀ q, ¬ aside q → debt q = if c.holder = q then 1 else 0)
    (waiters : ∀ w ∈ c.waiters, ¬ aside w.port) :
    (s.holderLeaves c.target).Accounts aside fun _ => 0 := by
  unfold State.holderLeaves
  rw [found]
  exact (h.passClaim (State.claim?_some found).1 holder waiters).select

theorem State.owed_pos_of_holder {c : ClaimRecord} (mem : c ∈ s.claims) : 0 < s.owed c.holder := by
  have : 0 < s.claimsHeld c.holder := List.countP_pos_iff.2 ⟨c, mem, by simp⟩
  unfold State.owed
  omega

/-- R30: a holder frees its unit and leaves. -/
theorem State.Settled.release {c : ClaimRecord} (h : s.Settled) (found : s.claim? c.target = some c)
    (attached : s.isAttached c.holder = true) :
    ((s.onQueue c.holder (·.release 1)).holderLeaves c.target).Settled := by
  have owes := State.owed_pos_of_holder (State.claim?_some found).1
  have unit := h.units c.holder id
  refine State.Accounts.holderLeaves (debt := fun q => if c.holder = q then 1 else 0) ?_ found
    (fun q _ => rfl) (fun w _ => id)
  refine h.queue (fun _ sound => ?_) (fun _ => ?_) fun q hq => by simp [Ne.symm hq]
  · rw [attached] at sound ⊢
    refine sound.reserve ?_
    have := sound.room
    simp only [EventQueue.sum] at this
    omega
  · simp [EventQueue.release]
    omega

/-- R32: an expiry converts the holder's unit, and the holder leaves. -/
theorem State.Settled.expire (h : s.Settled) (target : Nat) : (s.expire target).Settled := by
  rcases s.expire_cases target with ⟨-, eq⟩ | ⟨c, found, eq⟩
  · rw [eq]; exact h
  · obtain ⟨mem, rfl⟩ := State.claim?_some found
    rw [eq]
    have converted := h.convert (.claimExpired c.target) (h.holders c mem id) (State.owed_pos_of_holder mem)
    exact converted.holderLeaves (c := c) (by simpa [State.claim?] using found)
      (fun q _ => by simp [eq_comm]) (fun w _ => id)

/-! ### Teardown -/

theorem Slot.tearDown_owner {p q : Port} {x : Slot} :
    (x.tearDown p).owner? = some q ↔ x.owner? = some q ∧ q ≠ p := by
  cases x with
  | pending r _ | active r _ =>
    by_cases h : r = p
    · simp [Slot.tearDown, h, Slot.owner?, eq_comm]
    · simp only [Slot.tearDown, h, if_false, Slot.owner?, Option.some.injEq]
      exact ⟨fun eq => ⟨eq, fun eq' => h (eq.trans eq')⟩, fun eq => eq.1⟩
  | free | orphaned => simp [Slot.tearDown, Slot.owner?]

theorem Slot.tearDown_isPendingOf {p q : Port} (ne : q ≠ p) {x : Slot} (h : x.isPendingOf q = true) :
    (x.tearDown p).isPendingOf q = true := by
  cases x with
  | pending r _ =>
    obtain rfl : r = q := by simpa [Slot.isPendingOf] using h
    simp [Slot.tearDown, ne, Slot.isPendingOf]
  | free | active | orphaned => cases h

theorem State.leaving_slots (s : State) (p : Port) (cause : TeardownCause) :
    (s.leaving p cause).slots = s.slots.map (Slot.tearDown p) := by
  simp [State.leaving, State.dropRequests]

theorem State.leaving_slot (s : State) (p : Port) (cause : TeardownCause) (i : Nat) :
    (s.leaving p cause).slot i = (s.slot i).tearDown p := by
  simp only [State.slot, State.leaving_slots, List.getD_eq_getElem?_getD, List.getElem?_map]
  cases s.slots[i]? <;> rfl

theorem State.leaving_lists (s : State) (p : Port) (cause : TeardownCause) :
    (s.leaving p cause).lists = s.lists.set p [] := by
  simp [State.leaving, State.dropRequests, State.onList]

/-- The first two steps of a teardown set the accounts of the port aside. -/
theorem State.Settled.leaving (h : s.Settled) (p : Port) (cause : TeardownCause) :
    (s.leaving p cause).Accounts (· = p) fun _ => 0 where
  shape := h.shape.of_eq (by simp)
  detached q hq := hq ▸ s.leaving_isAttached_self p cause
  sound q hq := by
    rw [State.leaving_queues, s.leaving_isAttached_ne hq]
    exact h.sound q id
  units q hq := by
    have owned : (s.leaving p cause).slotsOwned q = s.slotsOwned q := by
      simp only [State.slotsOwned, State.leaving_slots, List.countP_map]
      exact List.countP_congr fun x _ => by simp [Slot.tearDown_owner, hq]
    have := h.units q id
    simp only [State.owed, State.claimsHeld, State.claimsWaited, owned, State.leaving_queues,
      State.leaving_claims] at this ⊢
    exact this
  holders c hc hq := by
    rw [s.leaving_isAttached_ne hq]
    exact h.holders c (by simpa using hc) id
  waiters c hc w hw hq := by
    rw [s.leaving_isAttached_ne hq]
    exact h.waiters c (by simpa using hc) w hw id
  owners x hx q hq := by
    rw [State.leaving_slots] at hx
    obtain ⟨y, hy, rfl⟩ := List.mem_map.1 hx
    obtain ⟨owner, ne⟩ := Slot.tearDown_owner.1 hq
    rw [s.leaving_isAttached_ne ne]
    exact h.owners y hy q owner
  subscribers e he x hx hq := by
    rw [s.leaving_isAttached_ne hq]
    exact h.subscribers e (by simpa [State.leaving] using he) x hx id
  requester q hq hout := by
    rw [s.leaving_isAttached_ne hout]
    exact h.requester q (by simpa [State.leaving] using hq) id
  lists q hq i hi := by
    rw [State.leaving_lists, PerPort.get_set] at hi
    split at hi
    · cases hi
    next ne =>
      rw [State.leaving_slot]
      exact Slot.tearDown_isPendingOf ne (h.lists q hq i hi)

/-- The port's claims are handed on and it leaves the wait lists: no other account changes for it. -/
theorem State.Settled.left (h : s.Settled) (p : Port) (cause : TeardownCause) :
    (s.left p cause).Accounts (· = p) fun _ => 0 := by
  have leaving := h.leaving p cause
  have handed := (State.leaveClaims_all (fun u => u.Accounts (· = p) fun _ => 0) p
    (fun u hu => hu.same rfl rfl rfl rfl rfl rfl (.inl rfl))
    (fun u c shape found holder hu => hu.holderLeaves found (fun q hq => by simp [holder, Ne.symm hq])
      (fun w hw => by
        obtain ⟨-, -, -, -, others, -⟩ := shape.each c (State.claim?_some found).1
        exact holder ▸ others w hw))
    _ (s.leaving p cause) leaving.shape ((s.leaving p cause).heldTargets_length p).symm leaving).1
  generalize hu : State.leaveClaims _ p (s.leaving p cause) = u at handed
  have eq : s.left p cause = u.leaveWaits p := by rw [← hu]; rfl
  have shape := (h.shape.filterMap (State.left_claims h.shape p cause) fun c hc d hd =>
    ⟨(ClaimRecord.tornFrom_some hd (h.shape.each c hc)).1,
      (ClaimRecord.tornFrom_some hd (h.shape.each c hc)).2.1⟩)
  rw [eq] at shape ⊢
  refine handed.claims shape (fun c hc hq => ?_) (fun c hc w hw hq => ?_) fun q hq => ?_
  · obtain ⟨d, hd, rfl⟩ := List.mem_map.1 hc
    exact handed.holders d hd hq
  · obtain ⟨d, hd, rfl⟩ := List.mem_map.1 hc
    exact handed.waiters d hd w (List.mem_filter.1 hw).1 hq
  · have same : ∀ d : ClaimRecord, (d.waiters.filter (fun w => decide (w.port ≠ p))).any
        (fun w => decide (w.port = q)) = d.waiters.any (fun w => decide (w.port = q)) := fun d => by
      rw [Bool.eq_iff_iff]
      simp only [List.any_eq_true, List.mem_filter, decide_eq_true_eq]
      exact ⟨fun ⟨w, hw, eq⟩ => ⟨w, hw.1, eq⟩, fun ⟨w, hw, eq⟩ => ⟨w, ⟨hw, eq ▸ hq⟩, eq⟩⟩
    simp only [State.owed, State.slotsOwned, State.claimsHeld, State.claimsWaited,
      State.withClaims_slots, State.withClaims_claims, List.countP_map, Function.comp_def, same]

theorem State.tearDown_isAttached (s : State) (p q : Port) (cause : TeardownCause) :
    (s.tearDown p cause).isAttached q = (s.left p cause).isAttached q := by
  rw [State.tearDown_eq]
  exact State.isAttached_congr (by simp) q

theorem State.tearDown_slots (s : State) (p : Port) (cause : TeardownCause) :
    (s.tearDown p cause).slots = (s.left p cause).slots := by simp [State.tearDown_eq]

/-- A teardown leaves its port with nothing, and every account settled. -/
theorem State.Settled.tearDown (h : s.Settled) (p : Port) (cause : TeardownCause) :
    (s.tearDown p cause).Settled := by
  have left := h.left p cause
  have away : (s.left p cause).isAttached p = false := left.detached p rfl
  have claims : (s.tearDown p cause).claims = (s.left p cause).claims := by simp [State.tearDown_eq]
  have torn : ∀ c ∈ (s.tearDown p cause).claims, c.holder ≠ p ∧ ∀ w ∈ c.waiters, w.port ≠ p := by
    intro c hc
    rw [State.tearDown_claims h.shape] at hc
    obtain ⟨d, hd, eq⟩ := List.mem_filterMap.1 hc
    obtain ⟨-, -, -, holder, waiters⟩ := ClaimRecord.tornFrom_some eq (h.shape.each d hd)
    exact ⟨holder, waiters⟩
  exact
    { shape := left.shape.of_eq claims
      detached := fun _ => False.elim
      sound := fun q _ => by
        by_cases hq : q = p
        · rw [hq, State.tearDown_queue_self]
          exact .reset _
        · rw [State.tearDown_queue_ne s hq, State.tearDown_isAttached]
          exact left.sound q hq
      units := fun q _ => by
        by_cases hq : q = p
        · have none : (s.tearDown p cause).owed p = 0 := by
            have slots : (s.tearDown p cause).slotsOwned p = 0 :=
              List.countP_eq_zero.2 fun x hx owner => by
                have := left.owners x (State.tearDown_slots s p cause ▸ hx) p (by simpa using owner)
                rw [away] at this
                cases this
            have held : (s.tearDown p cause).claimsHeld p = 0 :=
              List.countP_eq_zero.2 fun c hc => by simpa using (torn c hc).1
            have waited : (s.tearDown p cause).claimsWaited p = 0 :=
              List.countP_eq_zero.2 fun c hc => by simpa using (torn c hc).2
            simp [State.owed, slots, held, waited]
          rw [hq, State.tearDown_queue_self, none]
          rfl
        · rw [State.tearDown_queue_ne s hq, State.owed_congr (State.tearDown_slots s p cause) claims]
          exact left.units q hq
      holders := fun c hc _ => by
        rw [State.tearDown_isAttached]
        exact left.holders c (claims ▸ hc) (torn c hc).1
      waiters := fun c hc w hw _ => by
        rw [State.tearDown_isAttached]
        exact left.waiters c (claims ▸ hc) w hw ((torn c hc).2 w hw)
      owners := fun x hx q hq => by
        rw [State.tearDown_isAttached]
        exact left.owners x (State.tearDown_slots s p cause ▸ hx) q hq
      subscribers := fun e he x hx _ => by
        have ne : x.port ≠ p := by
          rw [State.tearDown_directory] at he
          obtain ⟨d, -, rfl⟩ := List.mem_map.1 he
          simpa using (List.mem_filter.1 hx).2
        have old : ∃ d ∈ s.directory, x ∈ d.subscribers := by
          rw [State.tearDown_directory] at he
          obtain ⟨d, hd, rfl⟩ := List.mem_map.1 he
          exact ⟨d, hd, (List.mem_filter.1 hx).1⟩
        obtain ⟨d, hd, hx⟩ := old
        rw [State.isAttached, State.tearDown_get_ne s ne]
        exact h.subscribers d hd x hx id
      requester := fun q hq _ => by
        rw [State.tearDown_isAttached]
        have kept : (s.left p cause).scheduler.requester = some q ∧ q ≠ p := by
          rw [State.tearDown_eq] at hq
          unfold State.dropRequester at hq
          split at hq
          · cases hq
          next other =>
            simp only [State.flushQueue_frame, State.dropSubscriptions_frame] at hq other
            exact ⟨hq, by rintro rfl; exact other hq⟩
        exact left.requester q kept.1 kept.2
      lists := fun q hq i hi => by
        rw [State.slot_congr (State.tearDown_slots s p cause)]
        exact left.lists q hq i (by simpa [State.tearDown_eq] using hi) }

/-! ### The end of an exchange -/

theorem State.Accounts.clearTransaction (h : s.Accounts aside debt) :
    s.clearTransaction.Accounts aside debt := h.same rfl rfl rfl rfl rfl rfl (.inl rfl)

theorem State.Accounts.changeLine (h : s.Accounts aside debt) (new : LineState) (cause : LineCause) :
    (s.changeLine new cause).Accounts aside debt := by
  unfold State.changeLine
  exact State.Accounts.offerEach
    (s := s.withScheduler { s.scheduler with line := new })
    (h.same rfl rfl rfl rfl rfl rfl (.inl rfl)) _ _

theorem State.Accounts.endTransaction (h : s.Accounts aside debt) :
    s.endTransaction.Accounts aside debt := by
  unfold State.endTransaction
  split
  · exact h.clearTransaction.changeLine _ _
  · exact h.clearTransaction

/-- The slot that a source names, where it names one, is on the line. -/
def State.servesOnLine (s : State) (source : Source) : Prop :=
  ∀ i, source = .request i → (s.slot i).onTheLine = true

theorem State.sourceOnLine_iff (s : State) :
    s.SourceOnLine ↔ ∀ x ∈ s.transaction, s.servesOnLine x.source := by
  unfold State.SourceOnLine State.sourceOnLine State.servesOnLine
  cases s.transaction with
  | none => simp
  | some x =>
    obtain ⟨source, -, -, -⟩ := x
    cases source <;> simp

theorem Slot.isPendingOf_of_onTheLine {x : Slot} (h : x.onTheLine = true) (p : Port) :
    x.isPendingOf p = false := by
  cases x with
  | active | orphaned => rfl
  | free | pending => cases h

theorem State.Accounts.finishRequest (h : s.Accounts aside fun _ => 0) {i : Nat}
    (onLine : (s.slot i).onTheLine = true) (status : CompletionStatus) :
    (s.finishRequest i status).Accounts aside fun _ => 0 :=
  (h.endRequest status (h.lists.unlisted (Slot.isPendingOf_of_onTheLine onLine))).endTransaction

theorem State.Accounts.endAttempt (h : s.Accounts aside fun _ => 0) {x : Transaction}
    (source : s.servesOnLine x.source) (v : Verdict) : (s.endAttempt x v).Accounts aside fun _ => 0 := by
  rcases s.endAttempt_cases x v with ⟨i, status, serves, eq⟩ | eq | ⟨i, q, r, -, -, -, eq⟩
  · rw [eq]; exact h.finishRequest (source i serves) status
  · rw [eq]; exact h.endTransaction
  · rw [eq]; exact h.same rfl rfl rfl rfl rfl rfl (.inl rfl)

/-- An entry whose subscribers are attached takes its place in the directory. -/
theorem State.Accounts.putEntry (h : s.Accounts aside debt) {x : StationEntry}
    (attached : ∀ y ∈ x.subscribers, ¬ aside y.port → s.isAttached y.port = true) :
    (s.putStation x).Accounts aside debt where
  shape := h.shape.of_eq (by simp)
  detached := h.detached
  sound := h.sound
  units := h.units
  holders := h.holders
  waiters := h.waiters
  owners := h.owners
  subscribers d hd y hy hq := by
    rcases mem_tablePut hd with rfl | hd
    · exact attached y hy hq
    · exact h.subscribers d hd y hy hq
  requester := h.requester
  lists := h.lists

/-- An entry takes another's place with subscribers that were subscribers already. -/
theorem State.Accounts.putStation (h : s.Accounts aside debt) {e x : StationEntry} (mem : e ∈ s.directory)
    (ports : ∀ y ∈ x.subscribers, ∃ z ∈ e.subscribers, z.port = y.port) :
    (s.putStation x).Accounts aside debt :=
  h.putEntry fun y hy hq => by
    obtain ⟨z, hz, eq⟩ := ports y hy
    have := h.subscribers e mem z hz (eq ▸ hq)
    rwa [eq] at this

theorem State.Accounts.changeStation (h : s.Accounts aside debt) (a : Nat)
    {f : StationEntry → StationEntry} (subscribers : ∀ e, (f e).subscribers = e.subscribers) :
    (s.changeStation a f).Accounts aside debt := by
  have put : ∀ e, s.station? a = some e → (s.putStation (f e)).Accounts aside debt := fun e found =>
    h.putStation (State.station?_some found).1 fun y hy => ⟨y, subscribers e ▸ hy, rfl⟩
  rcases s.changeStation_cases a f with ⟨-, eq⟩ | ⟨e, found, ⟨-, eq⟩ | ⟨-, eq⟩⟩
  · rw [eq]; exact h
  · rw [eq]; exact put e found
  · rw [eq]; exact (put e found).offerEach _ _

theorem State.Accounts.applyReport (h : s.Accounts aside debt) (a : Nat) (r : StationReport) :
    (s.applyReport a r).Accounts aside debt := by
  cases r with
  | none => exact h
  | validReply => exact h.changeStation a fun _ => rfl
  | successfulProbe => exact h.changeStation a fun _ => rfl
  | failedAttempt =>
    refine h.changeStation a fun e => ?_
    unfold StationEntry.failedAttempt
    dsimp only
    split
    · rfl
    · split <;> rfl

theorem State.Accounts.offerReport (h : s.Accounts aside debt) (subs : List Subscription)
    (r : ReportNotice) : (s.offerReport subs r).Accounts aside debt := by
  induction subs generalizing s with
  | nil => exact h
  | cons x subs ih => exact ih (h.offer _ _)

theorem State.Accounts.storeReport (h : s.Accounts aside debt) (a : Nat)
    (r : Option (Bool × List Byte × Bool)) : (s.storeReport a r).Accounts aside debt := by
  cases r with
  | none => exact h
  | some x =>
    obtain ⟨sBit, payload, noise⟩ := x
    rcases s.judgeReport_cases a sBit payload noise with eq | ⟨e, found, eq | eq | ⟨i, -, eq⟩⟩
    all_goals simp only [State.storeReport, eq]
    · exact h
    · exact h.putStation (State.station?_some found).1 fun y hy => ⟨y, hy, rfl⟩
    · exact h.putStation (State.station?_some found).1 fun y hy => ⟨y, hy, rfl⟩
    · unfold State.deliverReport
      refine State.Accounts.putStation (e := e) ?_
        (by simpa using (State.station?_some found).1) fun y hy => ?_
      · exact (h.offerReport e.subscribers _).same rfl rfl rfl rfl rfl rfl (.inl rfl)
      · obtain ⟨z, hz, rfl⟩ := List.mem_map.1 hy
        exact ⟨z, hz, rfl⟩

theorem State.writeSlot_onTheLine (s : State) (i j : Nat) (f : Request → Request) :
    ((s.writeSlot i f).slot j).onTheLine = (s.slot j).onTheLine := by
  have kept : ∀ x : Slot, (x.onLine f).onTheLine = x.onTheLine := fun x => by cases x <;> rfl
  unfold State.writeSlot
  by_cases free : s.slot i = .free
  · have := State.setSlot_self s i
    rw [free] at this ⊢
    exact congrArg (fun u => (u.slot j).onTheLine) this
  · rw [State.setSlot_slot (State.inside_of_slot free)]
    split
    next eq => rw [kept, eq]
    next => rfl

theorem State.servesOnLine.congr {source : Source} (h : s.servesOnLine source) (slots : t.slots = s.slots) :
    t.servesOnLine source := fun i hi => by
  rw [State.slot_congr slots]
  exact h i hi

theorem State.servesOnLine.writeSlot {source : Source} (h : s.servesOnLine source) (i : Nat)
    (f : Request → Request) : (s.writeSlot i f).servesOnLine source := fun j hj => by
  rw [State.writeSlot_onTheLine]
  exact h j hj

theorem State.servesOnLine.writeSource {source : Source} (h : s.servesOnLine source) (j : Judgement)
    (other : Source) : (s.writeSource j other).servesOnLine source := by
  cases other with
  | request i => exact h.writeSlot i _
  | visit => exact h

theorem State.Accounts.writeSource (h : s.Accounts aside debt) (j : Judgement) (source : Source) :
    (s.writeSource j source).Accounts aside debt := by
  cases source with
  | request i => exact h.writeSlot i _
  | visit => exact h

theorem State.Accounts.endExchange (h : s.Accounts aside fun _ => 0) (source : s.SourceOnLine)
    (result : ExchangeResult) : (s.endExchange result).Accounts aside fun _ => 0 := by
  rw [State.sourceOnLine_iff] at source
  unfold State.endExchange
  dsimp only
  split
  next => exact h.same rfl rfl rfl rfl rfl rfl (.inl rfl)
  next x hx =>
    generalize hu : s.withEngine s.engine.enterGap = u
    have gap : u.Accounts aside fun _ => 0 := hu ▸ h.same rfl rfl rfl rfl rfl rfl (.inl rfl)
    have serves : u.servesOnLine x.source := (source x hx).congr (by rw [← hu]; rfl)
    obtain ⟨j, v, -, hv, eq⟩ := u.handResult_cases x (s.engine.exchange.any Frame.sBit) result
    have judged := ((gap.applyReport x.station j.report).storeReport x.station j.store).writeSource j x.source
    have still := (serves.congr (t := (u.applyReport x.station j.report).storeReport x.station j.store)
      (by simp)).writeSource j x.source
    rw [← hv] at judged still
    rcases eq with ⟨-, -, eq⟩ | eq
    · rw [eq]; exact judged.same rfl rfl rfl rfl rfl rfl (.inl rfl)
    · rw [eq]; exact judged.endAttempt still _

theorem State.Accounts.resumeTransaction (h : s.Accounts aside fun _ => 0) (source : s.SourceOnLine) :
    s.resumeTransaction.Accounts aside fun _ => 0 := by
  rw [State.sourceOnLine_iff] at source
  rcases s.resumeTransaction_cases with eq | ⟨x, hx, ⟨-, eq⟩ | ⟨-, eq | ⟨i, serves, eq | ⟨q, r, -, -, eq⟩⟩⟩⟩
  · rw [eq]; exact h
  · rw [eq]; exact h.same rfl rfl rfl rfl rfl rfl (.inl rfl)
  · rw [eq]; exact h.endTransaction
  · rw [eq]; exact h.finishRequest (source x hx i serves) _
  · rw [eq]; exact h.beginAttempt x

theorem State.Accounts.cutTransaction (h : s.Accounts aside fun _ => 0) (source : s.SourceOnLine) :
    s.cutTransaction.Accounts aside fun _ => 0 := by
  rw [State.sourceOnLine_iff] at source
  unfold State.cutTransaction
  split
  next => exact h
  next x hx =>
    split
    next i serves =>
      have onLine := source x hx i serves
      exact (h.endRequest .cut
        (h.lists.unlisted (Slot.isPendingOf_of_onTheLine onLine))).clearTransaction
    next => exact h.clearTransaction

end

end Sys2Proof.Machine

/-! Every happening keeps the accounts settled and the slot of the transaction in progress on the line. -/

namespace Sys2Proof.Machine

section
variable {c : Instr} {p : Port} {s t : State}

/-! ### The acts of host commands -/

/-- A session that opens finds its queue empty and owns nothing (R159). -/
theorem State.Settled.attach (h : s.Settled) (detached : s.isAttached p = false) (lapse : Nat) :
    (s.onRecord p (·.attach lapse)).Settled := by
  have empty : s.queues.get p = .reset := (h.sound p id).detached detached
  have more : ∀ q, s.isAttached q = true → (s.onRecord p (·.attach lapse)).isAttached q = true := by
    intro q attached
    by_cases hq : q = p
    · rw [hq, detached] at attached; cases attached
    · simpa [State.isAttached, State.onRecord, PerPort.get_set_ne _ hq] using attached
  exact
    { shape := h.shape.of_eq rfl
      detached := fun _ => False.elim
      sound := fun q _ => by
        by_cases hq : q = p
        · subst hq
          rw [(State.onRecord_frame ..).2.2.2.2.1, empty]
          exact .reset _
        · have same : (s.onRecord p (·.attach lapse)).isAttached q = s.isAttached q := by
            simp [State.isAttached, State.onRecord, PerPort.get_set_ne _ hq]
          rw [same]
          exact h.sound q id
      units := h.units
      holders := fun c hc _ => more _ (h.holders c hc id)
      waiters := fun c hc w hw _ => more _ (h.waiters c hc w hw id)
      owners := fun x hx q hq => more q (h.owners x hx q hq)
      subscribers := fun e he x hx _ => more _ (h.subscribers e he x hx id)
      requester := fun q hq _ => more q (h.requester q hq id)
      lists := h.lists }

theorem State.Settled.removeNotice (h : s.Settled) (attached : s.isAttached p = true) :
    (s.removeNotice p).Settled := by
  have next : (s.onQueue p EventQueue.next).Settled := by
    refine h.queue (fun _ sound => ?_) (fun _ => h.units p id) fun _ _ => rfl
    rw [attached] at sound ⊢
    exact sound.next
  refine next.same (by simp) (by simp) ?_ (by simp) (by simp) (by simp) (.inl (by simp))
  unfold State.removeNotice
  split
  · rfl
  · simp

theorem mem_addSubscription {p : Port} {subs : List Subscription} {y : Subscription}
    (h : y ∈ addSubscription p subs) : y ∈ subs ∨ y.port = p := by
  unfold addSubscription at h
  split at h
  · exact .inl h
  · rcases List.mem_append.1 h with h | h
    · exact .inl (List.takeWhile_subset _ h)
    · rcases List.mem_cons.1 h with rfl | h
      · exact .inr rfl
      · exact .inl (List.dropWhile_subset _ h)

/-- Entries leave the directory. -/
theorem State.Settled.dropEntries (h : s.Settled) {l : List StationEntry} (sub : l ⊆ s.directory) :
    (s.withDirectory l).Settled where
  shape := h.shape.of_eq rfl
  detached := h.detached
  sound := h.sound
  units := h.units
  holders := h.holders
  waiters := h.waiters
  owners := h.owners
  subscribers e he := h.subscribers e (sub he)
  requester := h.requester
  lists := h.lists

/-- The Scheduler is changed to one whose requester, if any, is attached. -/
theorem State.Settled.withScheduler (h : s.Settled) {d : Scheduler}
    (attached : ∀ q ∈ d.requester, s.isAttached q = true) : (s.withScheduler d).Settled where
  shape := h.shape.of_eq rfl
  detached := h.detached
  sound := h.sound
  units := h.units
  holders := h.holders
  waiters := h.waiters
  owners := h.owners
  subscribers := h.subscribers
  requester q hq _ := attached q hq
  lists := h.lists

/-- R25: a claim is granted for one unit. -/
theorem State.Settled.grant (h : s.Settled) {k d : Nat} (attached : s.isAttached p = true)
    (free : s.claim? k = none) (room : (s.queues.get p).sum + 1 ≤ 16)
    (shape : (s.putClaim { target := k, holder := p, remaining := d, waiters := [] }).ClaimsShape) :
    (((s.putClaim { target := k, holder := p, remaining := d, waiters := [] }).claimSet k).onQueue p
      (·.take 1)).Settled := by
  have fresh := (State.claim?_none s k).1 free
  have put : (s.putClaim { target := k, holder := p, remaining := d, waiters := [] }).Accounts
      (fun _ => False) (fun q => if p = q then 1 else 0) := by
    refine h.claims shape (fun c hc _ => ?_) (fun c hc w hw _ => ?_) fun q _ => ?_
    · rcases mem_tablePut hc with rfl | hc
      · exact attached
      · exact h.holders c hc id
    · rcases mem_tablePut hc with rfl | hc
      · cases hw
      · exact h.waiters c hc w hw id
    · have held := countP_tablePut_new (key := ClaimRecord.target) (fun d => decide (d.holder = q))
        { target := k, holder := p, remaining := d, waiters := [] } fresh
      have waited := countP_tablePut_new (key := ClaimRecord.target)
        (fun d => d.waiters.any fun w => decide (w.port = q))
        { target := k, holder := p, remaining := d, waiters := [] } fresh
      simp only [decide_eq_true_eq, List.any_nil, Bool.false_eq_true, if_false] at held waited
      simp only [State.owed, State.slotsOwned, State.claimsHeld, State.claimsWaited,
        State.withClaims_slots, State.withClaims_claims] at held waited ⊢
      omega
  have set : ((s.putClaim { target := k, holder := p, remaining := d, waiters := [] }).claimSet
      k).Accounts (fun _ => False) (fun q => if p = q then 1 else 0) :=
    put.same (by simp) (by simp) (by simp) (by simp) (by simp) (by simp) (.inl (by simp))
  refine set.queue (fun _ sound => ?_) (fun _ => ?_) fun q hq => by simp [Ne.symm hq]
  · have same : ((s.putClaim { target := k, holder := p, remaining := d, waiters := [] }).claimSet
        k).isAttached p = true := by simpa [State.isAttached] using attached
    rw [same] at sound ⊢
    refine sound.reserve ?_
    simp only [EventQueue.sum] at room
    simp
    omega
  · have := set.units p id
    simp at this
    simp [EventQueue.take]
    omega

/-- R26: a port joins a wait list for two units. -/
theorem State.Settled.wait (h : s.Settled) {k : ClaimRecord} {d : Nat} (attached : s.isAttached p = true)
    (found : s.claim? k.target = some k) (fresh : ∀ w ∈ k.waiters, w.port ≠ p)
    (room : (s.queues.get p).sum + 2 ≤ 16)
    (shape : (s.putClaim { k with waiters := k.waiters ++ [⟨p, d⟩] }).ClaimsShape) :
    ((s.putClaim { k with waiters := k.waiters ++ [⟨p, d⟩] }).onQueue p (·.take 2)).Settled := by
  have mem := (State.claim?_some found).1
  have put : (s.putClaim { k with waiters := k.waiters ++ [⟨p, d⟩] }).Accounts
      (fun _ => False) (fun q => if p = q then 2 else 0) := by
    refine h.claims shape (fun c hc _ => ?_) (fun c hc w hw _ => ?_) fun q _ => ?_
    · rcases mem_tablePut hc with rfl | hc
      · exact h.holders k mem id
      · exact h.holders c hc id
    · rcases mem_tablePut hc with rfl | hc
      · rcases List.mem_append.1 hw with hw | hw
        · exact h.waiters k mem w hw id
        · rw [List.mem_singleton.1 hw]; exact attached
      · exact h.waiters c hc w hw id
    · have owes := State.owed_putClaim (d := { k with waiters := k.waiters ++ [⟨p, d⟩] })
        h.shape.rising mem rfl q
      simp only [List.any_append, List.any_cons, List.any_nil, Bool.or_false, Bool.or_eq_true,
        decide_eq_true_eq] at owes
      have eq : s.withClaims (tablePut ClaimRecord.target { k with waiters := k.waiters ++ [⟨p, d⟩] }
        s.claims) = s.putClaim { k with waiters := k.waiters ++ [⟨p, d⟩] } := rfl
      rw [eq]
      by_cases hq : p = q
      · subst hq
        have none : k.waiters.any (fun w => decide (w.port = p)) = false := by simpa using fresh
        simp [none] at owes
        simp
        omega
      · simp [hq] at owes
        simp [hq]
        omega
  refine put.queue (fun _ sound => ?_) (fun _ => ?_) fun q hq => by simp [Ne.symm hq]
  · have same : (s.putClaim { k with waiters := k.waiters ++ [⟨p, d⟩] }).isAttached p = true := by
      simpa [State.isAttached] using attached
    rw [same] at sound ⊢
    refine sound.reserve ?_
    simp only [EventQueue.sum] at room
    simp
    omega
  · have := put.units p id
    simp at this
    simp [EventQueue.take]
    omega

theorem State.mem_place {s : State} {i j : Nat} {urgent : Bool} {l : List Nat}
    (h : j ∈ s.place i urgent l) : j = i ∨ j ∈ l := by
  unfold State.place at h
  dsimp only at h
  split at h
  · rcases List.mem_append.1 h with h | h
    · exact .inr (List.takeWhile_subset _ h)
    · rcases List.mem_cons.1 h with h | h
      · exact .inl h
      · exact .inr (List.dropWhile_subset _ h)
  · simpa [or_comm] using h

/-- The slot that SUBMIT fills is FREE. -/
theorem State.freeSlot?_some {i : Nat} (h : s.freeSlot? = some i) :
    i < s.slots.length ∧ s.slot i = .free := by
  unfold State.freeSlot? at h
  rw [List.find?_range_eq_some] at h
  exact ⟨by simpa using h.2.1, by simpa using h.1⟩

/-- R48: a request fills a FREE slot for one unit. -/
theorem State.Settled.fillSlot (h : s.Settled) {i : Nat} {r : Request} (attached : s.isAttached p = true)
    (free : s.freeSlot? = some i) (room : (s.queues.get p).sum + 1 ≤ 16) :
    (s.fillSlot p i r).Settled := by
  obtain ⟨inside, empty⟩ := State.freeSlot?_some free
  have filled : (s.setSlot i (.pending p r)).Accounts (fun _ => False) (fun q => if p = q then 1 else 0) := by
    refine h.slot inside (fun q hq => ?_) (fun q hq => ?_) fun q => ?_
    · obtain rfl : p = q := by simpa [Slot.owner?] using hq
      exact attached
    · exact absurd hq (h.lists.unlisted (by simp [empty, Slot.isPendingOf]) q)
    · simp [empty, Slot.owner?]
  have listed : ((s.setSlot i (.pending p r)).onList p (s.place i r.urgent)).Accounts (fun _ => False)
      (fun q => if p = q then 1 else 0) := by
    refine filled.list fun j hj => ?_
    rw [State.setSlot_slot inside]
    split
    · simp [Slot.isPendingOf]
    next other =>
      rcases State.mem_place hj with eq | hj
      · exact absurd eq other
      · exact h.lists p (by simp) j hj
  refine listed.queue (fun _ sound => ?_) (fun _ => ?_) fun q hq => by simp [Ne.symm hq]
  · have same : ((s.setSlot i (.pending p r)).onList p (s.place i r.urgent)).isAttached p = true := by
      simpa [State.isAttached] using attached
    rw [same] at sound ⊢
    refine sound.reserve ?_
    simp only [EventQueue.sum] at room
    simp
    omega
  · have := listed.units p id
    simp at this
    simp [EventQueue.take]
    omega

theorem Act.settled (act : Act c p s t) (h : s.Settled) (claims : s.ClaimsOk) (source : s.SourceOnLine) :
    t.Settled := by
  have shape : t.ClaimsShape := ((State.claimsOk_iff t).1 (act.claimsOk claims)).1
  cases act with
  | nothing => exact h
  | attach body lapse _ detached =>
    exact (h.attach detached lapse).same (by simp) (by simp) (by simp) (by simp) (by simp) (by simp)
      (.inl (by simp))
  | detach => exact h.tearDown p .detach
  | nextEvent _ _ attached => exact h.removeNotice attached
  | enroll a poll => exact (h.putEntry (x := .enrolled a poll) (by simp [StationEntry.enrolled])).selectIf poll
  | dismiss e found =>
    refine State.Settled.dropEntries (s := s.postStationState e e.state .removed) (h.offerEach _ _) ?_
    intro x hx
    simpa using (List.mem_filter.1 hx).1
  | setStation e poll found =>
    exact (h.putStation (x := { e with pollEnabled := poll }) (State.station?_some found).1
      fun y hy => ⟨y, hy, rfl⟩).selectIf poll
  | subscribe e found attached =>
    refine h.putEntry fun y hy _ => ?_
    rcases mem_addSubscription hy with hy | eq
    · exact h.subscribers e (State.station?_some found).1 y hy id
    · exact eq ▸ attached
  | unsubscribe e found =>
    exact h.putStation (State.station?_some found).1 fun y hy => ⟨y, (List.mem_filter.1 hy).1, rfl⟩
  | grant k d _ _ attached _ free _ room => exact h.grant attached free room (shape.of_eq (by simp [State.putClaim]))
  | wait k d _ attached found _ fresh _ room =>
    exact h.wait attached found fresh room (shape.of_eq (by simp [State.putClaim]))
  | renew k d _ found =>
    have mem := (State.claim?_some found).1
    have put : (s.putClaim { k with remaining := d }).Settled := by
      refine h.claims (shape.of_eq (by simp [State.renewClaim_eq])) (fun c hc _ => ?_)
        (fun c hc w hw _ => ?_) fun q _ => ?_
      · rcases mem_tablePut hc with rfl | hc
        · exact h.holders k mem id
        · exact h.holders c hc id
      · rcases mem_tablePut hc with rfl | hc
        · exact h.waiters k mem w hw id
        · exact h.waiters c hc w hw id
      · have owes := State.owed_putClaim (d := { k with remaining := d }) h.shape.rising mem rfl q
        have eq : s.withClaims (tablePut ClaimRecord.target { k with remaining := d } s.claims) =
          s.putClaim { k with remaining := d } := rfl
        rw [eq]
        dsimp only at owes
        omega
    refine put.same ?_ ?_ ?_ ?_ ?_ ?_ (.inl ?_) <;> rw [State.renewClaim_eq] <;> simp [State.putClaim]
  | release k attached found holder =>
    subst holder
    exact h.release found attached
  | submit i r _ attached _ _ _ room free => exact (h.fillSlot attached free room).select
  | cancelPending i q r slot owner =>
    subst owner
    exact (h.unlist q i).endRequest _ (h.lists.unlist slot)
  | cancelActive => exact h.writeSlot _ _
  | start => exact (h.changeLine _ _).select
  | halt => exact h.changeLine _ _
  | drain => exact h.same rfl rfl rfl rfl rfl rfl (.inl rfl)
  | cut =>
    refine State.Accounts.changeLine ?_ _ _
    exact (h.cutTransaction source).same rfl rfl rfl rfl rfl rfl (.inl rfl)
  | cutStopped => exact (h.cutTransaction source).same rfl rfl rfl rfl rfl rfl (.inl rfl)
  | sweepOff => exact h.same rfl rfl rfl rfl rfl rfl (.inr rfl)
  | sweepOn m _ attached =>
    refine State.Accounts.select (h.withScheduler fun q hq => ?_)
    cases m with
    | once =>
      obtain rfl : p = q := by simpa [Scheduler.setPoll] using hq
      exact attached
    | off | continuous => cases hq
  | configure => exact h.same rfl rfl rfl rfl rfl rfl (.inl rfl)
  | stage => exact h.same rfl rfl rfl rfl rfl rfl (.inl rfl)

/-! ### Happenings -/

/-- The counting down of a tick moves no account (R23, R162). -/
theorem State.Settled.countDown (h : s.Settled) : s.countDown.Settled := by
  have counted : ∀ c ∈ s.countDown.claims, ∃ d ∈ s.claims, c.holder = d.holder ∧ c.waiters = d.waiters := by
    intro c hc
    obtain ⟨d, hd, rfl⟩ := List.mem_map.1 hc
    exact ⟨d, hd, by split <;> rfl, by split <;> rfl⟩
  have claims : (s.withClaims s.countDown.claims).Settled := by
    refine h.claims (h.shape.countDown.of_eq rfl) (fun c hc _ => ?_) (fun c hc w hw _ => ?_) fun q _ => ?_
    · obtain ⟨d, hd, holder, -⟩ := counted c hc
      exact holder ▸ h.holders d hd id
    · obtain ⟨d, hd, -, waiters⟩ := counted c hc
      exact h.waiters d hd w (waiters ▸ hw) id
    · have held : ∀ d : ClaimRecord, (if d.target ∈ s.ticked.claims then d
          else { d with remaining := d.remaining - 1 }).holder = d.holder := fun d => by split <;> rfl
      have waited : ∀ d : ClaimRecord, (if d.target ∈ s.ticked.claims then d
          else { d with remaining := d.remaining - 1 }).waiters = d.waiters := fun d => by split <;> rfl
      simp only [State.owed, State.slotsOwned, State.claimsHeld, State.claimsWaited, State.countDown,
        State.withClaims_slots, State.withClaims_claims, State.withRecords_claims, List.countP_map,
        Function.comp_def, held, waited]
  refine claims.sameSessions rfl (fun q => ?_) rfl rfl rfl rfl (.inl rfl)
  simp only [State.isAttached, State.countDown_get]
  split <;> rfl

theorem State.Settled.takeEnd (h : s.Settled) (x : TickEnd) : (s.takeEnd x).Settled := by
  cases x with
  | expiry target => exact h.expire target
  | lapse p => exact h.tearDown p .lapse

theorem State.reset_accountsOk : State.reset.AccountsOk := by decide

theorem Happening.settled (happening : Happening c s t) (ok : s.AccountsOk) : t.Settled := by
  obtain ⟨claims, h, source⟩ := (State.accountsOk_iff s).1 ok
  cases happening with
  | nothing => exact h
  | packet p _ _ u _ _ _ act =>
    have heard : (s.heard p).Settled :=
      h.sameSessions rfl (s.heard_isAttached p) rfl rfl rfl rfl (.inl rfl)
    exact (act.settled heard claims source).same rfl rfl rfl rfl rfl rfl (.inl rfl)
  | window => exact h.same rfl rfl rfl rfl rfl rfl (.inl rfl)
  | fragment p =>
    refine h.sameSessions rfl (fun q => ?_) rfl rfl rfl rfl (.inl rfl)
    simp only [State.isAttached, State.setWindow, State.onRecord, State.withWindows_records,
      State.withRecords_records, PerPort.get_set]
    split
    next eq => rw [eq]
    next => rfl
  | tick =>
    exact State.finishTick_induct State.Settled (fun _ h => h.same rfl rfl rfl rfl rfl rfl (.inl rfl))
      (fun _ x h => h.takeEnd x) _ _ h.countDown
  | expiry k =>
    exact State.Settled.expire (h.same (by simp) (by simp) (by simp) (by simp) (by simp) (by simp)
      (.inl (by simp))) _
  | lapse p =>
    exact State.Settled.tearDown (h.same (by simp) (by simp) (by simp) (by simp) (by simp) (by simp)
      (.inl (by simp))) p .lapse
  | reset =>
    exact ((State.accountsOk_iff _).1 State.reset_accountsOk).2.1.same rfl rfl rfl rfl rfl rfl (.inl rfl)
  | resetEnds => exact h.same rfl rfl rfl rfl rfl rfl (.inl rfl)
  | engine => exact h.same rfl rfl rfl rfl rfl rfl (.inl rfl)
  | ends e result =>
    exact State.Accounts.endExchange (s := s.withEngine e) (h.same rfl rfl rfl rfl rfl rfl (.inl rfl))
      source result
  | gapEnd =>
    exact (State.Accounts.resumeTransaction (s := s.withEngine s.engine.enterIdle)
      (h.same rfl rfl rfl rfl rfl rfl (.inl rfl)) source).select

/-! ### The slot of the transaction in progress -/

/-- What serves stays on the line, and no other transaction begins. -/
structure State.KeepsServing (s t : State) : Prop where
  transaction : t.transaction = s.transaction ∨ t.transaction = none
  onLine : ∀ i, (s.slot i).onTheLine = true → (t.slot i).onTheLine = true

theorem State.KeepsServing.of_eq (transaction : t.transaction = s.transaction) (slots : t.slots = s.slots) :
    s.KeepsServing t := ⟨.inl transaction, fun i hi => by rwa [State.slot_congr slots]⟩

theorem State.SourceOnLine.keeps (h : s.SourceOnLine) (keeps : s.KeepsServing t) : t.SourceOnLine := by
  rw [State.sourceOnLine_iff] at h ⊢
  intro x hx i hi
  rcases keeps.transaction with eq | eq
  · exact keeps.onLine i (h x (eq ▸ hx) i hi)
  · rw [eq] at hx; cases hx

/-- No slot but the one ended changes at the end of a request. -/
theorem State.endRequest_slot_ne (s : State) {i j : Nat} (ne : j ≠ i) (status : CompletionStatus) :
    (s.endRequest i status).slot j = s.slot j := by
  have set : ∀ l : List Slot, (l.set i .free).getD j .free = l.getD j .free := fun l => by
    simp [List.getD_eq_getElem?_getD, Ne.symm ne]
  rcases s.endRequest_cases i status with ⟨-, eq⟩ | ⟨p, r, -, eq⟩ | ⟨r, -, eq⟩
  · rw [eq]
  · rw [eq]; simpa [State.slot, State.setSlot] using set s.slots
  · rw [eq]; simpa [State.slot, State.setSlot] using set s.slots

/-- A request that is not on the line ends. -/
theorem State.SourceOnLine.endRequest (h : s.SourceOnLine) {i : Nat}
    (off : (s.slot i).onTheLine = false) (status : CompletionStatus) :
    (s.endRequest i status).SourceOnLine := by
  refine h.keeps ⟨.inl (by simp), fun j hj => ?_⟩
  have ne : j ≠ i := by rintro rfl; rw [off] at hj; cases hj
  rwa [s.endRequest_slot_ne ne]

/-- The record after an attempt has begun. -/
theorem State.beginAttempt_transaction (s : State) (x : Transaction) :
    ∃ phase, (s.beginAttempt x).transaction = some { x with phase := phase } := by
  unfold State.beginAttempt
  dsimp only
  split
  · exact ⟨.joinProbe, rfl⟩
  · exact ⟨.mainFrame, rfl⟩

theorem State.countAttempt_onTheLine (s : State) (source : Source) (j : Nat) :
    ((s.countAttempt source).slot j).onTheLine = (s.slot j).onTheLine := by
  cases source with
  | request i => exact s.writeSlot_onTheLine i j _
  | visit => rfl

theorem State.beginAttempt_sourceOnLine {x : Transaction} (h : s.servesOnLine x.source) :
    (s.beginAttempt x).SourceOnLine := by
  rw [State.sourceOnLine_iff]
  intro y hy i hi
  obtain ⟨phase, eq⟩ := s.beginAttempt_transaction x
  rw [eq] at hy
  cases hy
  rw [State.slot_congr (s.beginAttempt_effect x).2.1, State.countAttempt_onTheLine]
  exact h i hi

theorem State.SourceOnLine.select (h : s.SourceOnLine) : s.select.SourceOnLine := by
  unfold State.select
  split
  · refine State.choose_cases State.SourceOnLine State.SourceOnLine ?_ ?_ ?_ (fun u h _ _ => h) _ _
      (by simp) (h.keeps (.of_eq (by simp) (by simp)))
    · intro u p i q r h _ slot _
      have taken : (u.takeChoice p i).SourceOnLine := h.keeps (.of_eq (by simp) (by simp))
      exact taken.endRequest (by rw [State.slot_congr (s := u) (by simp), slot]; rfl) _
    · intro u a credit _ _
      exact State.beginAttempt_sourceOnLine nofun
    · intro u p i q r _ _ slot _
      refine State.beginAttempt_sourceOnLine fun j hj => ?_
      cases hj
      have inside : i < (u.takeChoice p i).slots.length := by
        have : (u.takeChoice p i).slots = u.slots := by simp
        rw [this]
        exact State.inside_of_slot (by simp [slot])
      have active := State.setSlot_slot inside (.active p
        { r with retryBudget := some (r.retryBudget.getD (u.takeChoice p i).engine.active.retryBudget) }) i
      rw [if_pos rfl] at active
      exact congrArg Slot.onTheLine active
  · exact h

theorem State.sourceOnLine_of_none (h : s.transaction = none) : s.SourceOnLine := by
  rw [State.sourceOnLine_iff, h]
  simp

theorem State.endTransaction_transaction (s : State) : s.endTransaction.transaction = none := by
  rcases s.endTransaction_cases with ⟨-, eq⟩ | ⟨-, eq⟩
  · rw [eq]; simp [State.clearTransaction]
  · rw [eq]; rfl

theorem State.servesOnLine.endAttempt {x : Transaction} (h : s.servesOnLine x.source)
    (v : Verdict) : (s.endAttempt x v).SourceOnLine := by
  rcases s.endAttempt_cases x v with ⟨i, status, -, eq⟩ | eq | ⟨i, q, r, -, -, -, eq⟩
  · rw [eq]; exact State.sourceOnLine_of_none (State.endTransaction_transaction _)
  · rw [eq]; exact State.sourceOnLine_of_none (State.endTransaction_transaction _)
  · rw [eq, State.sourceOnLine_iff]
    intro y hy
    cases hy
    exact h

theorem State.SourceOnLine.endExchange (h : s.SourceOnLine) (result : ExchangeResult) :
    (s.endExchange result).SourceOnLine := by
  unfold State.endExchange
  dsimp only
  split
  next none => exact State.sourceOnLine_of_none none
  next x hx =>
    generalize hu : s.withEngine s.engine.enterGap = u
    have serves : u.servesOnLine x.source :=
      ((State.sourceOnLine_iff s).1 h x hx).congr (by rw [← hu]; rfl)
    obtain ⟨j, v, -, hv, eq⟩ := u.handResult_cases x (s.engine.exchange.any Frame.sBit) result
    have still := (serves.congr (t := (u.applyReport x.station j.report).storeReport x.station j.store)
      (by simp)).writeSource j x.source
    rw [← hv] at still
    rcases eq with ⟨-, -, eq⟩ | eq
    · rw [eq, State.sourceOnLine_iff]
      intro y hy
      cases hy
      exact still
    · rw [eq]; exact still.endAttempt _

theorem State.SourceOnLine.resumeTransaction (h : s.SourceOnLine) : s.resumeTransaction.SourceOnLine := by
  have serves := (State.sourceOnLine_iff s).1 h
  rcases s.resumeTransaction_cases with eq | ⟨x, hx, ⟨-, eq⟩ | ⟨-, eq | ⟨i, -, eq | ⟨q, r, -, -, eq⟩⟩⟩⟩
  · rw [eq]; exact h
  · rw [eq, State.sourceOnLine_iff]
    intro y hy
    cases hy
    exact serves x hx
  · rw [eq]; exact State.sourceOnLine_of_none (State.endTransaction_transaction _)
  · rw [eq]; exact State.sourceOnLine_of_none (State.endTransaction_transaction _)
  · rw [eq]; exact State.beginAttempt_sourceOnLine (serves x hx)

theorem State.cutTransaction_transaction (s : State) : s.cutTransaction.transaction = none := by
  unfold State.cutTransaction
  split
  next none => exact none
  next => split <;> rfl

theorem State.SourceOnLine.holderLeaves (h : s.SourceOnLine) (target : Nat) :
    (s.holderLeaves target).SourceOnLine := by
  unfold State.holderLeaves
  split
  · exact h
  · exact State.SourceOnLine.select (h.keeps (.of_eq (by simp) (by simp)))

theorem State.SourceOnLine.expire (h : s.SourceOnLine) (target : Nat) : (s.expire target).SourceOnLine := by
  rcases s.expire_cases target with ⟨-, eq⟩ | ⟨c, -, eq⟩
  · rw [eq]; exact h
  · rw [eq]
    exact State.SourceOnLine.holderLeaves (h.keeps (.of_eq (by simp) (by simp))) target

theorem Slot.tearDown_onTheLine (p : Port) {x : Slot} (h : x.onTheLine = true) :
    (x.tearDown p).onTheLine = true := by
  cases x with
  | active q r =>
    unfold Slot.tearDown
    dsimp only
    split <;> rfl
  | orphaned => rfl
  | free | pending => cases h

theorem State.SourceOnLine.tearDown (h : s.SourceOnLine) (p : Port) (cause : TeardownCause) :
    (s.tearDown p cause).SourceOnLine := by
  have leaving : (s.leaving p cause).SourceOnLine := by
    refine h.keeps ⟨.inl (by simp [State.leaving]), fun i hi => ?_⟩
    rw [State.leaving_slot]
    exact Slot.tearDown_onTheLine p hi
  have handed := State.leaveClaims_induct State.SourceOnLine p (fun _ h => h)
    (fun u target hu => hu.holderLeaves target) ((s.leaving p cause).heldTargets p).length _ leaving
  exact handed.keeps (.of_eq (by simp [State.tearDown_eq, State.left]) (by simp [State.tearDown_eq, State.left]))

theorem State.SourceOnLine.takeEnd (h : s.SourceOnLine) (x : TickEnd) : (s.takeEnd x).SourceOnLine := by
  cases x with
  | expiry target => exact h.expire target
  | lapse p => exact h.tearDown p .lapse

theorem Act.sourceOnLine (act : Act c p s t) (h : s.SourceOnLine) : t.SourceOnLine := by
  cases act with
  | detach => exact h.tearDown p .detach
  | enroll | setStation =>
    rw [State.selectIf]
    split
    · exact State.SourceOnLine.select (h.keeps (.of_eq (by simp) (by simp)))
    · exact h.keeps (.of_eq (by simp) (by simp))
  | renew => exact h.keeps (.of_eq (by simp [State.renewClaim_eq]) (by simp [State.renewClaim_eq]))
  | release => exact State.SourceOnLine.holderLeaves (h.keeps (.of_eq (by simp) (by simp))) _
  | submit i r _ _ _ _ _ _ free =>
    refine State.SourceOnLine.select (h.keeps ⟨.inl (by simp), fun j hj => ?_⟩)
    obtain ⟨inside, empty⟩ := State.freeSlot?_some free
    have ne : j ≠ i := by rintro rfl; rw [empty] at hj; cases hj
    have := State.setSlot_slot inside (.pending p r) j
    rw [if_neg ne] at this
    exact (congrArg Slot.onTheLine this).trans hj
  | cancelPending i q r slot =>
    have taken : (s.unlist p i).SourceOnLine := h.keeps (.of_eq (by simp) (by simp))
    exact taken.endRequest (by rw [State.slot_congr (s := s) (by simp), slot]; rfl) _
  | cancelActive i =>
    exact h.keeps ⟨.inl (by simp), fun j hj => (s.writeSlot_onTheLine i j _).trans hj⟩
  | start | sweepOn => exact State.SourceOnLine.select (h.keeps (.of_eq (by simp) (by simp)))
  | cut | cutStopped =>
    exact State.sourceOnLine_of_none (by simpa using s.cutTransaction_transaction)
  | _ => exact h.keeps (.of_eq (by simp) (by simp))

theorem Happening.sourceOnLine (happening : Happening c s t) (h : s.SourceOnLine) : t.SourceOnLine := by
  cases happening with
  | nothing => exact h
  | packet p _ _ u _ _ _ act => exact (act.sourceOnLine (s := s.heard p) h).keeps (.of_eq rfl rfl)
  | tick => exact State.finishTick_induct State.SourceOnLine (fun _ h => h) (fun _ x h => h.takeEnd x) _ _ h
  | expiry k => exact State.SourceOnLine.expire (h.keeps (.of_eq (by simp) (by simp))) _
  | lapse p => exact State.SourceOnLine.tearDown (h.keeps (.of_eq (by simp) (by simp))) p _
  | reset => exact State.sourceOnLine_of_none rfl
  | ends e result => exact State.SourceOnLine.endExchange (s := s.withEngine e) h result
  | gapEnd =>
    exact (State.SourceOnLine.resumeTransaction (s := s.withEngine s.engine.enterIdle) h).select
  | _ => exact h.keeps (.of_eq (by simp) (by simp))

/-- Settles O55: every operation moves units and owners together, a teardown with the accounts of its
port set aside. -/
theorem stepsKeepTheAccounts : Obligations.StepsKeepTheAccounts := fun _ _ ok h =>
  step_keeps State.AccountsOk (fun _ _ h => h)
    (fun _ _ _ ok h =>
      have happening := exec_happens h
      have parts := (State.accountsOk_iff _).1 ok
      (State.accountsOk_iff _).2
        ⟨happening.claimsOk parts.1, happening.settled ok, happening.sourceOnLine parts.2.2⟩) ok h

end

end Sys2Proof.Machine

/-! The request slots: their ranges, the pending lists and the tags of each port (R39 to R43), kept by every
operation on a slot. -/

namespace Sys2Proof.Machine

/-- What SlotsOk asks, slot by slot, but for the one slot on the line (R39 to R43). -/
structure State.SlotsFit (s : State) : Prop where
  length : s.slots.length = 32
  ok : ∀ i, (s.slot i).Ok
  owned : ∀ p, s.slotsOwned p ≤ 12
  nodup : ∀ p, (s.lists.get p).Nodup
  listed : ∀ p i, i ∈ s.lists.get p ↔ (s.slot i).isPendingOf p = true
  urgent : ∀ p, (s.lists.get p).Pairwise (fun i j => s.isUrgent j → s.isUrgent i)
  tags : ∀ p i j, i ≠ j → (s.slot i).owner? = some p → (s.slot j).owner? = some p →
    (s.slot i).request?.map Request.tag ≠ (s.slot j).request?.map Request.tag

section
variable {s t : State}

theorem State.slot_outside {i : Nat} (h : s.slots.length ≤ i) : s.slot i = .free := by
  simp [State.slot, h]

theorem Slot.free_ok : Slot.free.Ok := ⟨nofun, rfl⟩

theorem State.slots_forall_iff (s : State) {P : Slot → Prop} (free : P .free) :
    (∀ x ∈ s.slots, P x) ↔ ∀ i, P (s.slot i) := by
  constructor
  · intro h i
    by_cases inside : i < s.slots.length
    · rw [State.slot_eq_getElem inside]
      exact h _ (List.getElem_mem inside)
    · rw [State.slot_outside (Nat.not_lt.1 inside)]
      exact free
  · intro h x hx
    obtain ⟨i, inside, rfl⟩ := List.getElem_of_mem hx
    rw [← State.slot_eq_getElem inside]
    exact h i

theorem State.slotsOk_iff (s : State) :
    s.SlotsOk ↔ s.SlotsFit ∧ s.slots.countP Slot.onTheLine ≤ 1 := by
  constructor
  · rintro ⟨length, ok, one, ports⟩
    have off : ∀ i, ¬ i < 32 → s.slot i = .free := fun i hi =>
      State.slot_outside (by omega)
    refine ⟨⟨length, (s.slots_forall_iff Slot.free_ok).1 ok, fun p => (ports p (by simp)).1,
      fun p => (ports p (by simp)).2.1, fun p i => ?_, fun p => (ports p (by simp)).2.2.2.2.1, ?_⟩, one⟩
    · obtain ⟨-, -, listed, inside, -⟩ := ports p (by simp)
      by_cases hi : i < 32
      · exact listed i (List.mem_range.2 hi)
      · rw [off i hi]
        exact ⟨fun mem => absurd (inside i mem) hi, nofun⟩
    · intro p i j ne hi hj
      obtain ⟨-, -, -, -, -, tags⟩ := ports p (by simp)
      have inside : ∀ k, (s.slot k).owner? = some p → k < 32 := fun k hk => by
        by_contra out
        rw [off k out] at hk
        cases hk
      rw [List.pairwise_iff_getElem] at tags
      have apart := fun a b (hb : b < 32) (hab : a < b) => tags a b
        (by simpa using hab.trans hb) (by simpa using hb) hab
      simp only [List.getElem_range] at apart
      rcases Nat.lt_or_gt_of_ne ne with lt | gt
      · exact apart i j (inside j hj) lt hi hj
      · exact (apart j i (inside i hi) gt hj hi).symm
  · rintro ⟨⟨length, ok, owned, nodup, listed, urgent, tags⟩, one⟩
    refine ⟨length, (s.slots_forall_iff Slot.free_ok).2 ok, one, fun p _ =>
      ⟨owned p, nodup p, fun i _ => listed p i, fun i mem => ?_, urgent p, ?_⟩⟩
    · by_contra out
      have := (listed p i).1 mem
      rw [State.slot_outside (by omega)] at this
      cases this
    · exact List.nodup_range.imp fun {i j} ne hi hj => tags p i j ne hi hj

/-- Two states with the same slots and lists. -/
theorem State.SlotsFit.of_eq (h : s.SlotsFit) (slots : t.slots = s.slots) (lists : t.lists = s.lists) :
    t.SlotsFit := by
  have slot : ∀ i, t.slot i = s.slot i := State.slot_congr slots
  obtain ⟨length, ok, owned, nodup, listed, urgent, tags⟩ := h
  exact
    { length := slots ▸ length
      ok := fun i => slot i ▸ ok i
      owned := fun p => by simpa only [State.slotsOwned, slots] using owned p
      nodup := fun p => lists ▸ nodup p
      listed := fun p i => by rw [lists, slot]; exact listed p i
      urgent := fun p => by simpa only [lists, State.isUrgent, slot] using urgent p
      tags := fun p i j => by simpa only [slot] using tags p i j }

theorem State.SlotsFit.listsOwn (h : s.SlotsFit) : s.ListsOwn := fun p _ i hi => (h.listed p i).1 hi

/-! ### One slot -/

/-- A slot that takes another's place and is its owner's in its stead, or nobody's. -/
structure Slot.Succeeds (x y : Slot) : Prop where
  ok : x.Ok
  pending : ∀ p, x.isPendingOf p = y.isPendingOf p
  owner : ∀ p, x.owner? = some p → y.owner? = some p ∧
    x.request?.map Request.tag = y.request?.map Request.tag
  urgent : ∀ p, x.isPendingOf p = true → x.request?.any Request.urgent = y.request?.any Request.urgent

theorem State.slotsOwned_setSlot_le {i : Nat} {x : Slot} (owner : ∀ p, x.owner? = some p →
    (s.slot i).owner? = some p) (p : Port) : (s.setSlot i x).slotsOwned p ≤ s.slotsOwned p := by
  by_cases inside : i < s.slots.length
  · have := State.setSlot_slotsOwned inside x p
    by_cases hx : x.owner? = some p
    · rw [if_pos hx, if_pos (owner p hx)] at this
      omega
    · rw [if_neg hx] at this
      omega
  · simp [State.slotsOwned, State.setSlot, List.set_eq_of_length_le (Nat.not_lt.1 inside)]

theorem State.SlotsFit.set (h : s.SlotsFit) {i : Nat} (inside : i < s.slots.length) {x : Slot}
    (x_succeeds : x.Succeeds (s.slot i)) : (s.setSlot i x).SlotsFit := by
  have slot := State.setSlot_slot inside x
  obtain ⟨length, ok, owned, nodup, listed, urgent, tags⟩ := h
  have lists : (s.setSlot i x).lists = s.lists := by simp
  have succeeds : ∀ j, ((s.setSlot i x).slot j).Succeeds (s.slot j) := fun j => by
    rw [slot]
    split
    next eq => exact eq ▸ x_succeeds
    next => exact ⟨ok j, fun _ => rfl, fun _ h => ⟨h, rfl⟩, fun _ _ => rfl⟩
  exact
    { length := by simpa [State.setSlot] using length
      ok := fun j => (succeeds j).ok
      owned := fun p => (State.slotsOwned_setSlot_le (fun q hq => (x_succeeds.owner q hq).1) p).trans (owned p)
      nodup := fun p => lists ▸ nodup p
      listed := fun p j => by rw [lists, (succeeds j).pending]; exact listed p j
      urgent := fun p => by
        rw [lists]
        refine (List.Pairwise.imp_of_mem (fun {a b} ha hb hab => ?_) (urgent p))
        have same : ∀ k ∈ s.lists.get p, (s.setSlot i x).isUrgent k = s.isUrgent k := fun k hk =>
          (succeeds k).urgent p (by rw [(succeeds k).pending]; exact (listed p k).1 hk)
        rw [same a ha, same b hb]
        exact hab
      tags := fun p j k ne hj hk => by
        obtain ⟨ownerJ, tagJ⟩ := (succeeds j).owner p hj
        obtain ⟨ownerK, tagK⟩ := (succeeds k).owner p hk
        rw [tagJ, tagK]
        exact tags p j k ne ownerJ ownerK }

/-- A write to the slot on the line that keeps it in its ranges (R51). -/
theorem State.SlotsFit.writeSlot (h : s.SlotsFit) {i : Nat} {f : Request → Request}
    (tag : ∀ r, (f r).tag = r.tag) (ok : ((s.slot i).onLine f).Ok) : (s.writeSlot i f).SlotsFit := by
  unfold State.writeSlot
  by_cases free : s.slot i = .free
  · have same := s.setSlot_self i
    rw [free] at same ⊢
    exact h.of_eq (congrArg State.slots same) (congrArg State.lists same)
  · refine h.set (State.inside_of_slot free) ⟨ok, fun p => ?_, fun p => ?_, fun p => ?_⟩
    all_goals cases s.slot i <;> simp [Slot.onLine, Slot.isPendingOf, Slot.owner?, Slot.request?, tag]

/-- A slot on the line becomes FREE. -/
theorem State.SlotsFit.free (h : s.SlotsFit) {i : Nat} (onLine : (s.slot i).onTheLine = true) :
    (s.setSlot i .free).SlotsFit := by
  refine h.set (State.inside_of_slot ?_)
    ⟨Slot.free_ok, fun p => ?_, nofun, nofun⟩
  · rintro free
    rw [free] at onLine
    cases onLine
  · rw [Slot.isPendingOf_of_onTheLine onLine]
    rfl

/-- A PENDING slot leaves its port's list for another state. -/
theorem State.SlotsFit.takeOff (h : s.SlotsFit) {p : Port} {i : Nat} {r : Request} {x : Slot}
    (slot : s.slot i = .pending p r) (ok : x.Ok) (off : ∀ q, x.isPendingOf q = false)
    (owner : ∀ q, x.owner? = some q → p = q ∧ x.request?.map Request.tag = some r.tag) :
    ((s.unlist p i).setSlot i x).SlotsFit := by
  have inside : i < (s.unlist p i).slots.length := by
    have : (s.unlist p i).slots = s.slots := by simp
    rw [this]
    exact State.inside_of_slot (by simp [slot])
  have slots := State.setSlot_slot inside x
  have before : ∀ j, (s.unlist p i).slot j = s.slot j := State.slot_congr (by simp)
  have own := h.listsOwn
  obtain ⟨length, oks, owned, nodup, listed, urgent, tags⟩ := h
  have sub : ∀ q, ((s.unlist p i).lists.get q).Sublist (s.lists.get q) := fun q => by
    simp only [State.unlist, State.onList, State.withLists_lists, PerPort.get_set]
    split
    next eq => subst eq; exact List.filter_sublist
    next => exact .refl _
  have gone := own.unlist slot
  have kept : ∀ q j, j ∈ (s.unlist p i).lists.get q ↔ j ∈ s.lists.get q ∧ j ≠ i := fun q j => by
    refine ⟨fun mem => ⟨(sub q).subset mem, ?_⟩, fun ⟨mem, ne⟩ => ?_⟩
    · rintro rfl
      exact gone q mem
    · simp only [State.unlist, State.onList, State.withLists_lists, PerPort.get_set]
      split
      next eq => subst eq; simpa [ne] using mem
      next => exact mem
  have succeeds : ∀ q j, ((s.unlist p i).setSlot i x |>.slot j).owner? = some q →
      (s.slot j).owner? = some q ∧ (((s.unlist p i).setSlot i x).slot j).request?.map Request.tag =
        (s.slot j).request?.map Request.tag := fun q j hj => by
    rw [slots] at hj ⊢
    split at hj
    next eq =>
      subst eq
      obtain ⟨rfl, tag⟩ := owner q hj
      rw [if_pos rfl, tag, slot]
      exact ⟨rfl, rfl⟩
    next ne =>
      rw [if_neg ne, before] at *
      exact ⟨hj, rfl⟩
  exact
    { length := by simpa [State.setSlot] using length
      ok := fun j => by
        rw [slots]
        split
        · exact ok
        · rw [before]; exact oks j
      owned := fun q => by
        refine (State.slotsOwned_setSlot_le (fun q hq => ?_) q).trans ?_
        · rw [before, slot, ← (owner q hq).1]
          rfl
        · simpa [State.slotsOwned] using owned q
      nodup := fun q => (nodup q).sublist (sub q)
      listed := fun q j => by
        rw [slots]
        show j ∈ (s.unlist p i).lists.get q ↔ _
        rw [kept, listed]
        split
        next eq => subst eq; simp [off]
        next ne => rw [before]; simp [ne]
      urgent := fun q => by
        refine List.Pairwise.imp_of_mem (fun {a b} ha hb hab => ?_) ((urgent q).sublist (sub q))
        have same : ∀ k ∈ (s.unlist p i).lists.get q,
            ((s.unlist p i).setSlot i x).isUrgent k = s.isUrgent k := fun k hk => by
          rw [State.isUrgent, slots, if_neg ((kept q k).1 hk).2, before]
          rfl
        rw [same a ha, same b hb]
        exact hab
      tags := fun q j k ne hj hk => by
        obtain ⟨ownerJ, tagJ⟩ := succeeds q j hj
        obtain ⟨ownerK, tagK⟩ := succeeds q k hk
        rw [tagJ, tagK]
        exact tags q j k ne ownerJ ownerK }

/-! ### SUBMIT and teardown -/

/-- No slot of the port carries a tag that none is found for (R42). -/
theorem State.tagged?_none {p : Port} {tag : Nat} (h : s.tagged? p tag = none) (i : Nat)
    (owner : (s.slot i).owner? = some p) : (s.slot i).request?.map Request.tag ≠ some tag := by
  intro eq
  have inside : i < s.slots.length := State.inside_of_slot (by rintro free; simp [free, Slot.owner?] at owner)
  unfold State.tagged? at h
  rw [List.find?_eq_none] at h
  have := h i (List.mem_range.2 inside)
  obtain ⟨r, hr, rfl⟩ := Option.map_eq_some_iff.1 eq
  simp [owner, hr] at this

/-- Where the place of a new request is, among a list in which urgent entries come first (R44). -/
theorem State.place_pairwise {i : Nat} {urgent : Bool} {l : List Nat}
    (first : l.Pairwise (fun j k => s.isUrgent k → s.isUrgent j)) (after : Nat → Bool)
    (self : after i = urgent) (others : ∀ j ∈ l, after j = s.isUrgent j) :
    (s.place i urgent l).Pairwise (fun j k => after k → after j) := by
  have old : l.Pairwise (fun j k => after k → after j) :=
    first.imp_of_mem fun {a b} ha hb hab => by rw [others a ha, others b hb]; exact hab
  unfold State.place
  dsimp only
  have split : l.takeWhile s.isUrgent ++ l.dropWhile s.isUrgent = l := List.takeWhile_append_dropWhile
  have front : ∀ j ∈ l.takeWhile s.isUrgent, after j = true := fun j hj => by
    rw [others j (List.takeWhile_subset _ hj)]
    exact List.mem_takeWhile_imp hj
  split
  next urgent =>
    rw [← split, List.pairwise_append] at old
    rw [List.pairwise_append, List.pairwise_cons]
    refine ⟨old.1, ⟨fun j _ _ => by rw [self, urgent], old.2.1⟩, fun a ha b _ _ => front a ha⟩
  next normal =>
    rw [List.pairwise_append]
    refine ⟨old, List.pairwise_singleton .., fun a _ b hb hb' => ?_⟩
    rw [List.mem_singleton.1 hb, self] at hb'
    exact absurd hb' normal

theorem State.place_nodup {i : Nat} {urgent : Bool} {l : List Nat} (fresh : i ∉ l) (nodup : l.Nodup) :
    (s.place i urgent l).Nodup := by
  have perm : (s.place i urgent l).Perm (i :: l) := by
    unfold State.place
    dsimp only
    split
    · refine List.perm_middle.trans (.cons i ?_)
      rw [List.takeWhile_append_dropWhile]
    · exact List.perm_append_singleton i l
  exact perm.nodup_iff.2 (List.nodup_cons.2 ⟨fresh, nodup⟩)

theorem State.mem_place_iff {i j : Nat} {urgent : Bool} {l : List Nat} :
    j ∈ s.place i urgent l ↔ j = i ∨ j ∈ l := by
  refine ⟨State.mem_place, fun h => ?_⟩
  unfold State.place
  dsimp only
  split
  · have split : l.takeWhile s.isUrgent ++ l.dropWhile s.isUrgent = l := List.takeWhile_append_dropWhile
    rcases h with rfl | h
    · simp
    · rw [← split] at h
      rcases List.mem_append.1 h with h | h
      · exact List.mem_append_left _ h
      · exact List.mem_append_right _ (List.mem_cons_of_mem _ h)
  · rcases h with rfl | h <;> simp [*]

/-- R44, R48: SUBMIT fills a FREE slot with a request whose tag is the port's only one. -/
theorem State.SlotsFit.fillSlot (h : s.SlotsFit) {p : Port} {i : Nat} {r : Request}
    (ok : (Slot.pending p r).Ok) (fresh : s.tagged? p r.tag = none) (quota : s.slotsOwned p < 12)
    (free : s.freeSlot? = some i) : (s.fillSlot p i r).SlotsFit := by
  obtain ⟨inside, empty⟩ := State.freeSlot?_some free
  have slot : ∀ j, (s.fillSlot p i r).slot j = if j = i then .pending p r else s.slot j :=
    State.setSlot_slot inside _
  have owned : ∀ q, (s.fillSlot p i r).slotsOwned q = s.slotsOwned q + if p = q then 1 else 0 := fun q => by
    have := State.setSlot_slotsOwned inside (.pending p r) q
    simp only [empty, Slot.owner?, Option.some.injEq, reduceCtorEq, if_false, Nat.add_zero] at this
    exact this
  have lists : ∀ q, (s.fillSlot p i r).lists.get q =
      if q = p then s.place i r.urgent (s.lists.get p) else s.lists.get q := fun q => by
    simp [State.fillSlot, State.onList, PerPort.get_set]
  have own := h.listsOwn
  have unlisted : ∀ q, i ∉ s.lists.get q := own.unlisted (by simp [empty, Slot.isPendingOf])
  obtain ⟨length, oks, capacity, nodup, listed, urgent, tags⟩ := h
  have isUrgent : ∀ q j, j ∈ s.lists.get q → (s.fillSlot p i r).isUrgent j = s.isUrgent j :=
    fun q j hj => by
      have ne : j ≠ i := by rintro rfl; exact unlisted q hj
      simp only [State.isUrgent, slot, if_neg ne]
  have tagNe : ∀ j, (s.slot j).owner? = some p → (s.slot j).request?.map Request.tag ≠ some r.tag :=
    State.tagged?_none fresh
  exact
    { length := by simpa [State.fillSlot, State.setSlot] using length
      ok := fun j => by
        rw [slot]
        split
        · exact ok
        · exact oks j
      owned := fun q => by
        rw [owned]
        have := capacity q
        split
        next eq => subst eq; omega
        next => omega
      nodup := fun q => by
        rw [lists]
        split
        · exact State.place_nodup (unlisted p) (nodup p)
        · exact nodup q
      listed := fun q j => by
        have before := listed q j
        rw [lists, slot]
        by_cases hj : j = i
        · subst hj
          by_cases hq : q = p
          · simp [hq, State.mem_place_iff, Slot.isPendingOf]
          · simp [hq, unlisted q, Slot.isPendingOf, Ne.symm hq]
        · rw [if_neg hj, ← before]
          split
          next hq => subst hq; simp [State.mem_place_iff, hj]
          next => rfl
      urgent := fun q => by
        rw [lists]
        split
        next hq =>
          refine State.place_pairwise (urgent p) (fun j => (s.fillSlot p i r).isUrgent j) ?_
            (isUrgent p)
          simp [State.isUrgent, slot, Slot.request?]
        next =>
          refine (urgent q).imp_of_mem fun {a b} ha hb hab => ?_
          rw [isUrgent q a ha, isUrgent q b hb]
          exact hab
      tags := fun q j k ne hj hk => by
        rw [slot j] at hj
        rw [slot k] at hk
        rw [slot j, slot k]
        by_cases eqJ : j = i
        · have neK : k ≠ i := fun eqK => ne (eqJ.trans eqK.symm)
          rw [if_pos eqJ] at hj ⊢
          rw [if_neg neK] at hk ⊢
          obtain rfl : p = q := by simpa [Slot.owner?] using hj
          exact (tagNe k hk).symm
        · rw [if_neg eqJ] at hj ⊢
          by_cases eqK : k = i
          · rw [if_pos eqK] at hk ⊢
            obtain rfl : p = q := by simpa [Slot.owner?] using hk
            exact tagNe j hj
          · rw [if_neg eqK] at hk ⊢
            exact tags q j k ne hj hk }

theorem Slot.Ok.tearDown {x : Slot} (h : x.Ok) (p : Port) : (x.tearDown p).Ok := by
  cases x with
  | free => exact h
  | orphaned => exact h
  | pending q r =>
    unfold Slot.tearDown
    dsimp only
    split
    · exact Slot.free_ok
    · exact h
  | active q r =>
    unfold Slot.tearDown
    dsimp only
    split
    · exact ⟨fun r' hr' => by cases hr'; exact h.1 r rfl, h.2⟩
    · exact h

theorem Slot.tearDown_request {p q : Port} {x : Slot} (owner : (x.tearDown p).owner? = some q) :
    x.tearDown p = x := by
  cases x with
  | free | orphaned => rfl
  | pending r _ | active r _ =>
    by_cases h : r = p
    · simp [Slot.tearDown, h, Slot.owner?] at owner
    · simp [Slot.tearDown, h]

theorem Slot.isPendingOf_owner {x : Slot} {p : Port} (h : x.isPendingOf p = true) : x.owner? = some p := by
  cases x with
  | pending q r => simpa [Slot.isPendingOf, Slot.owner?] using h
  | free | active | orphaned => cases h

/-- R58: the port's PENDING slots go and its list with them, and its ACTIVE slot is an orphan. -/
theorem State.SlotsFit.leaving (h : s.SlotsFit) (p : Port) (cause : TeardownCause) :
    (s.leaving p cause).SlotsFit := by
  have slot := s.leaving_slot p cause
  have lists : ∀ q, (s.leaving p cause).lists.get q = if q = p then [] else s.lists.get q := fun q => by
    rw [State.leaving_lists, PerPort.get_set]
  obtain ⟨length, oks, owned, nodup, listed, urgent, tags⟩ := h
  have pending : ∀ q, q ≠ p → ∀ j, ((s.slot j).tearDown p).isPendingOf q = (s.slot j).isPendingOf q := by
    intro q ne j
    rw [Bool.eq_iff_iff]
    refine ⟨fun hj => ?_, Slot.tearDown_isPendingOf ne⟩
    rwa [Slot.tearDown_request (Slot.isPendingOf_owner hj)] at hj
  exact
    { length := by simpa [State.leaving_slots] using length
      ok := fun j => slot j ▸ (oks j).tearDown p
      owned := fun q => by
        refine le_trans ?_ (owned q)
        simp only [State.slotsOwned, State.leaving_slots, List.countP_map]
        exact List.countP_mono_left fun x _ hx => by
          simpa using (Slot.tearDown_owner.1 (by simpa using hx)).1
      nodup := fun q => by
        rw [lists]
        split
        · exact List.nodup_nil
        · exact nodup q
      listed := fun q j => by
        rw [lists, slot]
        split
        next hq =>
          subst hq
          refine ⟨nofun, fun hj => absurd rfl (Slot.tearDown_owner.1 (Slot.isPendingOf_owner hj)).2⟩
        next ne => rw [pending q ne, listed]
      urgent := fun q => by
        rw [lists]
        split
        · exact .nil
        next ne =>
          refine (urgent q).imp_of_mem fun {a b} ha hb hab => ?_
          have same : ∀ k ∈ s.lists.get q, (s.leaving p cause).isUrgent k = s.isUrgent k := fun k hk => by
            have := Slot.tearDown_isPendingOf ne ((listed q k).1 hk)
            rw [State.isUrgent, slot, Slot.tearDown_request (Slot.isPendingOf_owner this)]
            rfl
          rw [same a ha, same b hb]
          exact hab
      tags := fun q j k ne hj hk => by
        rw [slot] at hj hk
        rw [slot j, slot k]
        have keptJ := Slot.tearDown_request hj
        have keptK := Slot.tearDown_request hk
        rw [keptJ] at hj ⊢
        rw [keptK] at hk ⊢
        exact tags q j k ne hj hk }

end

end Sys2Proof.Machine

/-! The course of a transaction: the record, the slot on the line, the Scheduler's busy and the engine's
state agree, at rest or with one transaction in progress (chapters 3 to 6). -/

namespace Sys2Proof.Machine

/-! ### What the course rests on -/

/-- What frames and reports turn on in a station's entry. -/
def StationEntry.wire (e : StationEntry) : StationState × Nat × Bool × Bool × Bool :=
  (e.state, e.miss, e.synchronised, e.sendBit, e.reportBit)

/-- Table 1-2, for one entry. -/
def StationEntry.SyncOk (e : StationEntry) : Prop :=
  (e.state = .unknown → e.synchronised = false) ∧ (e.state = .online → e.synchronised = true) ∧
    (e.state = .offline → e.synchronised = false ∧ 2 ≤ e.miss)

/-- What the course of a transaction turns on in a slot on the line. -/
def Slot.lineKey : Slot → Option (Nat × RequestKind × List Byte × Nat × Option Nat)
  | .active _ r | .orphaned r => some (r.station, r.kind, r.payload, r.attempts, r.retryBudget)
  | .free | .pending _ _ => none

/-- What busy is while a transaction is in progress (R60). -/
def Transaction.busy (x : Transaction) : Busy :=
  match x.source with
  | .request i => .request i
  | .visit => .visit x.station

/-- No transaction is in progress. -/
structure State.Rest (s : State) : Prop where
  transaction : s.transaction = none
  busy : s.scheduler.busy = .none
  phase : s.engine.phase = .idle ∨ s.engine.phase = .gap
  line : s.scheduler.line ≠ .draining
  off : ∀ i, (s.slot i).onTheLine = false

/-- The Scheduler and the slots serve this transaction (R40, R62, R63, R80, R81). -/
structure State.Serves (s : State) (x : Transaction) : Prop where
  line : s.scheduler.line ≠ .stopped
  busy : s.scheduler.busy = x.busy
  request : ∀ i, x.source = .request i →
    (s.slot i).onTheLine = true ∧
      (s.slot i).request?.map (fun r => (r.station, r.kind.main)) = some (x.station, x.main)
  visit : x.source = .visit → (x.main = .probe ∨ x.main = .poll) ∧ x.phase ≠ .awaitRetry
  only : ∀ i, (s.slot i).onTheLine = true → x.source = .request i

/-- The engine is where the phase of the transaction has it (R80, R83, R93, R106). -/
def State.PhaseFits (s : State) (x : Transaction) : Prop :=
  match x.phase with
  | .joinProbe =>
    s.engine.phase.inExchange = true ∧ s.engine.exchange = some (probeFrame x.station) ∧
      x.main.mayProbe = true
  | .mainFrame =>
    s.engine.phase.inExchange = true ∧ s.engine.exchange = some (s.mainFrame x) ∧
      s.needsProbe x = false
  | .awaitMain => s.engine.phase = .gap ∧ s.needsProbe x = false ∧ x.main.mayProbe = true
  | .awaitRetry => s.engine.phase = .gap ∧ s.retryDue x = true

/-- One transaction is in progress. -/
structure State.Underway (s : State) (x : Transaction) : Prop where
  transaction : s.transaction = some x
  serves : s.Serves x
  phase : s.PhaseFits x

/-- The slots, the claims and the directory agree, whatever the course. -/
structure State.Orderly (s : State) : Prop where
  fit : s.SlotsFit
  synchronised : ∀ a e, s.station? a = some e → e.SyncOk
  targets : ∀ c ∈ s.claims, c.target ≠ 0 → (s.station? c.target).isSome = true
  requests : ∀ i r, (s.slot i).request? = some r → r.kind ≠ .broadcast →
    (s.station? r.station).isSome = true

/-- The course, the slots and the directory agree. -/
structure State.Coherent (s : State) : Prop where
  orderly : s.Orderly
  station : ∀ x ∈ s.transaction, x.main ≠ .broadcast → (s.station? x.station).isSome = true
  course : s.Rest ∨ ∃ x, s.Underway x

section
variable {s t : State} {x : Transaction}

theorem Transaction.busy_ne_none (x : Transaction) : x.busy ≠ .none := by
  unfold Transaction.busy
  split <;> simp

theorem State.phaseMatches_some (h : s.transaction = some x) :
    s.phaseMatches = true ↔ s.PhaseFits x := by
  unfold State.phaseMatches State.PhaseFits
  rw [h]
  dsimp only
  cases x.phase <;> simp [and_assoc]

theorem countP_onTheLine_le {k : Nat} (only : ∀ i, (s.slot i).onTheLine = true → i = k) :
    s.slots.countP Slot.onTheLine ≤ 1 := by
  have off : (s.slots.set k .free).countP Slot.onTheLine = 0 := by
    rw [List.countP_eq_zero]
    intro x hx
    obtain ⟨i, inside, rfl⟩ := List.getElem_of_mem hx
    rw [List.getElem_set]
    split
    · simp [Slot.onTheLine]
    next ne =>
      intro onLine
      rw [← State.slot_eq_getElem (by simpa using inside)] at onLine
      exact ne (only i onLine).symm
  by_cases inside : k < s.slots.length
  · rw [List.countP_set inside] at off
    split at off <;> omega
  · rw [List.set_eq_of_length_le (Nat.not_lt.1 inside)] at off
    omega

/-- The record, the phase and the line state of a sound state are one of the two courses. -/
theorem State.course_of_sound (slots : s.SlotsOk) (record : s.RecordOk) (phase : s.PhaseOk)
    (line : s.LineOk) : s.Rest ∨ ∃ x, s.Underway x := by
  obtain ⟨stopped, draining, onLine⟩ := line
  have length := slots.1
  have only : ∀ i, (s.slot i).onTheLine = true → s.scheduler.busy = .request i := fun i hi => by
    refine onLine i (List.mem_range.2 ?_) hi
    by_contra out
    rw [State.slot_outside (by omega)] at hi
    cases hi
  unfold State.RecordOk State.recordMatches at record
  split at record
  next none free =>
    refine .inl ⟨none, free, ?_, fun eq => draining eq free, fun i => ?_⟩
    · unfold State.PhaseOk State.phaseMatches at phase
      rw [none] at phase
      simpa using phase
    · by_contra hi
      have := only i (by simpa using hi)
      rw [free] at this
      cases this
  next x i some busy =>
    simp only [Bool.and_eq_true, decide_eq_true_eq] at record
    obtain ⟨⟨source, self⟩, request⟩ := record
    refine .inr ⟨x, some, ⟨fun eq => ?_, ?_, fun j hj => ?_, fun visit => ?_, fun j hj => ?_⟩,
      (State.phaseMatches_some some).1 phase⟩
    · have := stopped eq
      rw [busy] at this
      cases this
    · rw [busy, Transaction.busy, source]
    · rw [source] at hj
      cases hj
      exact ⟨self, request⟩
    · rw [source] at visit
      cases visit
    · have := only j hj
      rw [busy] at this
      cases this
      exact source
  next x a some busy =>
    simp only [decide_eq_true_eq] at record
    obtain ⟨source, station, main, retry⟩ := record
    refine .inr ⟨x, some, ⟨fun eq => ?_, ?_, fun j hj => ?_, fun _ => ⟨main, retry⟩, fun j hj => ?_⟩,
      (State.phaseMatches_some some).1 phase⟩
    · have := stopped eq
      rw [busy] at this
      cases this
    · rw [busy, Transaction.busy, source, station]
    · rw [source] at hj
      cases hj
    · have := only j hj
      rw [busy] at this
      cases this
  next => cases record

theorem State.Rest.sound (h : s.Rest) : s.RecordOk ∧ s.PhaseOk ∧ s.LineOk := by
  obtain ⟨transaction, busy, phase, line, off⟩ := h
  refine ⟨?_, ?_, fun _ => busy, fun eq => absurd eq line, fun i _ hi => ?_⟩
  · simp [State.RecordOk, State.recordMatches, transaction, busy]
  · simpa [State.PhaseOk, State.phaseMatches, transaction] using phase
  · rw [off i] at hi
    cases hi

theorem State.Underway.sound (h : s.Underway x) : s.RecordOk ∧ s.PhaseOk ∧ s.LineOk := by
  obtain ⟨transaction, ⟨line, busy, request, visit, only⟩, phase⟩ := h
  refine ⟨?_, (State.phaseMatches_some transaction).2 phase, fun eq => absurd eq line,
    fun _ => busy ▸ x.busy_ne_none, fun i _ hi => ?_⟩
  · cases source : x.source with
    | request i =>
      simp only [Transaction.busy, source] at busy
      obtain ⟨onLine, named⟩ := request i source
      simp [State.RecordOk, State.recordMatches, transaction, busy, source, onLine, named]
    | visit =>
      simp only [Transaction.busy, source] at busy
      simp [State.RecordOk, State.recordMatches, transaction, busy, source, visit source]
  · rw [busy, Transaction.busy, only i hi]

theorem State.Coherent.of_sound (synchronised : s.SynchronisedOk) (slots : s.SlotsOk) (record : s.RecordOk)
    (phase : s.PhaseOk) (line : s.LineOk) (inUse : s.InUseEnrolled) : s.Coherent where
  orderly :=
    { fit := (s.slotsOk_iff.1 slots).1
      synchronised := fun _ e found => synchronised e (State.station?_some found).1
      targets := inUse.1
      requests := fun i r hr => by
        refine inUse.2.1 (s.slot i) (State.slot_mem ?_) r hr
        rintro free
        rw [free] at hr
        cases hr }
  station := inUse.2.2
  course := State.course_of_sound slots record phase line

theorem State.Coherent.sound (h : s.Coherent) (directory : s.DirectoryOk) :
    s.SynchronisedOk ∧ s.SlotsOk ∧ s.RecordOk ∧ s.PhaseOk ∧ s.LineOk ∧ s.InUseEnrolled := by
  have one : s.slots.countP Slot.onTheLine ≤ 1 := by
    rcases h.course with rest | ⟨x, underway⟩
    · exact countP_onTheLine_le (k := 0) fun i hi => by rw [rest.off i] at hi; cases hi
    · cases source : x.source with
      | request k =>
        refine countP_onTheLine_le (k := k) fun i hi => ?_
        have := underway.serves.only i hi
        rw [source] at this
        cases this
        rfl
      | visit =>
        refine countP_onTheLine_le (k := 0) fun i hi => ?_
        have := underway.serves.only i hi
        rw [source] at this
        cases this
  have course : s.RecordOk ∧ s.PhaseOk ∧ s.LineOk := by
    rcases h.course with rest | ⟨x, underway⟩
    · exact rest.sound
    · exact underway.sound
  refine ⟨fun e he => h.orderly.synchronised e.address e (tableFind_of_mem directory.2.1 he),
    s.slotsOk_iff.2 ⟨h.orderly.fit, one⟩, course.1, course.2.1, course.2.2, h.orderly.targets, ?_, h.station⟩
  intro y hy r hr
  obtain ⟨i, inside, rfl⟩ := List.getElem_of_mem hy
  rw [← State.slot_eq_getElem inside] at hr
  exact h.orderly.requests i r hr

/-! ### What leaves the course alone -/

/-- Every entry keeps what frames and reports turn on, and none comes or goes. -/
def State.SameWire (s t : State) : Prop :=
  ∀ a, (t.station? a).map StationEntry.wire = (s.station? a).map StationEntry.wire

theorem State.SameWire.of_eq (h : t.directory = s.directory) : s.SameWire t := fun a => by
  simp only [State.station?, h]

theorem State.SameWire.trans {u : State} (h : s.SameWire t) (h' : t.SameWire u) : s.SameWire u :=
  fun a => (h' a).trans (h a)

theorem State.SameWire.isSome (h : s.SameWire t) (a : Nat) :
    (t.station? a).isSome = (s.station? a).isSome := by
  simpa using congrArg Option.isSome (h a)

theorem State.SameWire.synchronised (h : s.SameWire t) (ok : ∀ a e, s.station? a = some e → e.SyncOk)
    (a : Nat) (e : StationEntry) (found : t.station? a = some e) : e.SyncOk := by
  have same := h a
  rw [found] at same
  obtain ⟨d, hd, eq⟩ := Option.map_eq_some_iff.1 same.symm
  have := ok a d hd
  simp only [StationEntry.wire, Prod.mk.injEq] at eq
  obtain ⟨state, miss, sync, -, -⟩ := eq
  simpa only [StationEntry.SyncOk, state, miss, sync] using this

/-- The bits of a station, as frames read them. -/
theorem any_of_wire {o o' : Option StationEntry} (h : o'.map StationEntry.wire = o.map StationEntry.wire) :
    o'.any StationEntry.synchronised = o.any StationEntry.synchronised ∧
      o'.any StationEntry.sendBit = o.any StationEntry.sendBit ∧
      o'.any StationEntry.reportBit = o.any StationEntry.reportBit := by
  cases o <;> cases o' <;> simp_all [StationEntry.wire]

theorem State.needsProbe_congr (h : (t.station? x.station).map StationEntry.wire =
    (s.station? x.station).map StationEntry.wire) : t.needsProbe x = s.needsProbe x := by
  unfold State.needsProbe
  rw [(any_of_wire h).1]

theorem State.mainFrame_congr (h : (t.station? x.station).map StationEntry.wire =
    (s.station? x.station).map StationEntry.wire)
    (payload : t.sourcePayload x.source = s.sourcePayload x.source) : t.mainFrame x = s.mainFrame x := by
  unfold State.mainFrame
  rw [(any_of_wire h).2.1, (any_of_wire h).2.2, payload]

theorem Slot.onTheLine_of_lineKey {x y : Slot} (h : x.lineKey = y.lineKey) :
    x.onTheLine = y.onTheLine := by
  cases x <;> cases y <;> simp_all [Slot.lineKey, Slot.onTheLine]

/-- A slot on the line keeps its request's fields with its key. -/
theorem Slot.request_of_lineKey {y z : Slot} (h : z.lineKey = y.lineKey) (onLine : y.onTheLine = true) :
    ∃ r r', y.request? = some r ∧ z.request? = some r' ∧ r'.station = r.station ∧ r'.kind = r.kind ∧
      r'.payload = r.payload ∧ r'.attempts = r.attempts ∧ r'.retryBudget = r.retryBudget := by
  cases y <;> cases z <;> simp_all [Slot.lineKey, Slot.onTheLine, Slot.request?]

/-- The course goes on: the slots on the line, busy, the record and the exchange stay. -/
structure State.Steady (s t : State) : Prop where
  transaction : t.transaction = s.transaction
  busy : t.scheduler.busy = s.scheduler.busy
  stopped : t.scheduler.line = .stopped → t.scheduler.busy = .none
  draining : t.scheduler.line = .draining → t.scheduler.busy ≠ .none
  phase : t.engine.phase = s.engine.phase ∨
    (s.engine.phase.inExchange = true ∧ t.engine.phase.inExchange = true)
  exchange : t.engine.exchange = s.engine.exchange
  keys : ∀ i, (t.slot i).lineKey = (s.slot i).lineKey

theorem State.Rest.steady (h : s.Rest) (steady : s.Steady t) : t.Rest := by
  obtain ⟨transaction, busy, phase, line, off⟩ := h
  refine ⟨steady.transaction.trans transaction, steady.busy.trans busy, ?_, fun eq => ?_, fun i => ?_⟩
  · rcases steady.phase with eq | ⟨inside, -⟩
    · rwa [eq]
    · rcases phase with eq | eq <;> rw [eq] at inside <;> cases inside
  · exact steady.draining eq (steady.busy.trans busy)
  · rw [Slot.onTheLine_of_lineKey (steady.keys i), off]

theorem State.Serves.steady (h : s.Serves x) (steady : s.Steady t) : t.Serves x := by
  obtain ⟨line, busy, request, visit, only⟩ := h
  refine ⟨fun eq => ?_, steady.busy.trans busy, fun i hi => ?_, visit, fun i hi => ?_⟩
  · have := steady.stopped eq
    rw [steady.busy, busy] at this
    exact x.busy_ne_none this
  · obtain ⟨onLine, named⟩ := request i hi
    obtain ⟨r, r', hr, hr', station, kind, -⟩ := Slot.request_of_lineKey (steady.keys i) onLine
    refine ⟨(Slot.onTheLine_of_lineKey (steady.keys i)).trans onLine, ?_⟩
    rw [hr] at named
    rw [hr']
    simpa [station, kind] using named
  · exact only i ((Slot.onTheLine_of_lineKey (steady.keys i)).symm.trans hi)

theorem State.Steady.payload (steady : s.Steady t) (h : s.Serves x) :
    t.sourcePayload x.source = s.sourcePayload x.source := by
  cases source : x.source with
  | visit => rfl
  | request i =>
    obtain ⟨onLine, -⟩ := h.request i source
    obtain ⟨r, r', hr, hr', -, -, payload, -⟩ := Slot.request_of_lineKey (steady.keys i) onLine
    simp [State.sourcePayload, hr, hr', payload]

theorem State.Steady.retryDue (steady : s.Steady t) (h : s.Serves x) : t.retryDue x = s.retryDue x := by
  unfold State.retryDue
  split
  next i source =>
    obtain ⟨onLine, -⟩ := h.request i source
    obtain ⟨r, r', hr, hr', -, -, -, attempts, budget⟩ := Slot.request_of_lineKey (steady.keys i) onLine
    simp [hr, hr', Request.spent, attempts, budget]
  next => rfl

theorem State.PhaseFits.steady (h : s.PhaseFits x) (serves : s.Serves x) (steady : s.Steady t)
    (wire : (t.station? x.station).map StationEntry.wire =
      (s.station? x.station).map StationEntry.wire) : t.PhaseFits x := by
  have probe := State.needsProbe_congr wire
  have frame := State.mainFrame_congr wire (steady.payload serves)
  have inside : s.engine.phase.inExchange = true → t.engine.phase.inExchange = true := fun h => by
    rcases steady.phase with eq | ⟨-, inside⟩
    · rwa [eq]
    · exact inside
  have gap : s.engine.phase = .gap → t.engine.phase = .gap := fun h => by
    rcases steady.phase with eq | ⟨inside, -⟩
    · rwa [eq]
    · rw [h] at inside; cases inside
  unfold State.PhaseFits at h ⊢
  cases hx : x.phase <;> simp only [hx] at h ⊢
  · exact ⟨inside h.1, steady.exchange.trans h.2.1, h.2.2⟩
  · exact ⟨inside h.1, by rw [steady.exchange, frame, h.2.1], probe.trans h.2.2⟩
  · exact ⟨gap h.1, probe.trans h.2.1, h.2.2⟩
  · exact ⟨gap h.1, (steady.retryDue serves).trans h.2⟩

theorem State.Underway.steady (h : s.Underway x) (steady : s.Steady t)
    (wire : (t.station? x.station).map StationEntry.wire =
      (s.station? x.station).map StationEntry.wire) : t.Underway x :=
  ⟨steady.transaction.trans h.transaction, h.serves.steady steady, h.phase.steady h.serves steady wire⟩

theorem State.Orderly.keeps (h : s.Orderly) (wire : s.SameWire t) (fit : t.SlotsFit)
    (targets : ∀ c ∈ t.claims, ∃ d ∈ s.claims, d.target = c.target)
    (requests : ∀ i r, (t.slot i).request? = some r →
      ∃ r', (s.slot i).request? = some r' ∧ r'.kind = r.kind ∧ r'.station = r.station) : t.Orderly where
  fit := fit
  synchronised := wire.synchronised h.synchronised
  targets c hc named := by
    obtain ⟨d, hd, eq⟩ := targets c hc
    rw [wire.isSome, ← eq]
    exact h.targets d hd (eq ▸ named)
  requests i r hr kind := by
    obtain ⟨r', hr', kind', station⟩ := requests i r hr
    rw [wire.isSome, ← station]
    exact h.requests i r' hr' (kind' ▸ kind)

theorem State.Orderly.same (h : s.Orderly) (wire : s.SameWire t) (slots : t.slots = s.slots)
    (lists : t.lists = s.lists) (targets : ∀ c ∈ t.claims, ∃ d ∈ s.claims, d.target = c.target) :
    t.Orderly :=
  h.keeps wire (h.fit.of_eq slots lists) targets fun i r hr =>
    ⟨r, by rwa [State.slot_congr slots] at hr, rfl, rfl⟩

theorem State.Coherent.steady (h : s.Coherent) (orderly : t.Orderly) (steady : s.Steady t)
    (wire : ∀ x ∈ s.transaction, (t.station? x.station).map StationEntry.wire =
      (s.station? x.station).map StationEntry.wire) : t.Coherent where
  orderly := orderly
  station x hx main := by
    rw [steady.transaction] at hx
    have same := congrArg Option.isSome (wire x hx)
    simp only [Option.isSome_map] at same
    rw [same]
    exact h.station x hx main
  course := by
    rcases h.course with rest | ⟨x, underway⟩
    · exact .inl (rest.steady steady)
    · exact .inr ⟨x, underway.steady steady (wire x underway.transaction)⟩

theorem State.Coherent.line (h : s.Coherent) :
    (s.scheduler.line = .stopped → s.scheduler.busy = .none) ∧
      (s.scheduler.line = .draining → s.scheduler.busy ≠ .none) := by
  rcases h.course with rest | ⟨x, underway⟩
  · exact ⟨fun _ => rest.busy, fun eq => absurd eq rest.line⟩
  · exact ⟨fun eq => absurd eq underway.serves.line,
      fun _ => underway.serves.busy ▸ x.busy_ne_none⟩

/-- What no course rests on may change. -/
theorem State.Steady.of_eq (h : s.Coherent) (transaction : t.transaction = s.transaction)
    (busy : t.scheduler.busy = s.scheduler.busy) (line : t.scheduler.line = s.scheduler.line)
    (engine : t.engine = s.engine) (slots : t.slots = s.slots) : s.Steady t :=
  ⟨transaction, busy, fun eq => busy ▸ h.line.1 (line ▸ eq), fun eq => busy ▸ h.line.2 (line ▸ eq),
    .inl (by rw [engine]), by rw [engine], fun i => by rw [State.slot_congr slots]⟩

theorem State.Coherent.same (h : s.Coherent) (wire : s.SameWire t)
    (transaction : t.transaction = s.transaction) (busy : t.scheduler.busy = s.scheduler.busy)
    (line : t.scheduler.line = s.scheduler.line) (engine : t.engine = s.engine)
    (slots : t.slots = s.slots) (lists : t.lists = s.lists)
    (targets : ∀ c ∈ t.claims, ∃ d ∈ s.claims, d.target = c.target) : t.Coherent :=
  h.steady (h.orderly.same wire slots lists targets) (.of_eq h transaction busy line engine slots)
    fun _ _ => wire _

/-! ### Requests and their slots -/

theorem State.endRequest_slots (s : State) (i : Nat) (status : CompletionStatus) :
    (s.endRequest i status).slots = s.slots.set i .free := by
  rcases s.endRequest_cases i status with ⟨free, eq⟩ | ⟨p, r, -, eq⟩ | ⟨r, -, eq⟩
  · have self := congrArg State.slots (s.setSlot_self i)
    rw [free] at self
    rw [eq]
    exact self.symm
  · rw [eq]; simp [State.setSlot]
  · rw [eq]; rfl

theorem State.endRequest_slot (s : State) (i j : Nat) (status : CompletionStatus) :
    (s.endRequest i status).slot j = if j = i then .free else s.slot j := by
  rw [State.slot_congr (s := s.setSlot i .free) (s.endRequest_slots i status)]
  by_cases inside : i < s.slots.length
  · exact State.setSlot_slot inside .free j
  · have out := State.slot_outside (Nat.not_lt.1 inside)
    have self := s.setSlot_self i
    rw [out] at self
    rw [self]
    split
    next eq => rw [eq, out]
    next => rfl

/-- Only the slot that ended is gone. -/
theorem State.endRequest_requests {i j : Nat} {status : CompletionStatus} {r : Request}
    (h : ((s.endRequest i status).slot j).request? = some r) : (s.slot j).request? = some r := by
  rw [s.endRequest_slot] at h
  split at h
  · cases h
  · exact h

/-- A PENDING request that has left its list ends. -/
theorem State.Coherent.endPending (h : s.Coherent) {p : Port} {i : Nat} {r : Request} {d : Scheduler}
    (slot : s.slot i = .pending p r) (busy : d.busy = s.scheduler.busy) (line : d.line = s.scheduler.line)
    (status : CompletionStatus) :
    (((s.unlist p i).withScheduler d).endRequest i status).Coherent := by
  have before : ∀ j, ((s.unlist p i).withScheduler d).slot j = s.slot j := State.slot_congr (by simp)
  have scheduler : (((s.unlist p i).withScheduler d).endRequest i status).scheduler = d := by simp
  refine h.steady (h.orderly.keeps (.of_eq (by simp)) ?_ ?_ ?_) ⟨by simp, ?_, ?_, ?_, .inl (by simp),
    by simp, fun j => ?_⟩ fun _ _ => State.SameWire.of_eq (by simp) _
  · refine (h.orderly.fit.takeOff slot Slot.free_ok (fun _ => rfl) nofun).of_eq ?_ (by simp)
    rw [State.endRequest_slots]
    rfl
  · intro c hc
    exact ⟨c, by simpa using hc, rfl⟩
  · intro j r' hr
    exact ⟨r', before j ▸ State.endRequest_requests hr, rfl, rfl⟩
  · rw [scheduler, busy]
  · rw [scheduler, line, busy]; exact h.line.1
  · rw [scheduler, line, busy]; exact h.line.2
  · rw [State.endRequest_slot, before]
    split
    next eq => rw [eq, slot]; rfl
    next => rfl

theorem State.writeSlot_slot (s : State) (i j : Nat) (f : Request → Request) :
    (s.writeSlot i f).slot j = if j = i then (s.slot i).onLine f else s.slot j := by
  unfold State.writeSlot
  by_cases inside : i < s.slots.length
  · exact State.setSlot_slot inside _ j
  · have out := State.slot_outside (Nat.not_lt.1 inside)
    have self := s.setSlot_self i
    rw [out] at self ⊢
    change (s.setSlot i .free).slot j = if j = i then .free else s.slot j
    rw [self]
    split
    next eq => rw [eq, out]
    next => rfl

/-- A write to a slot keeps kind and station, where what it writes does. -/
theorem State.writeSlot_requests {i j : Nat} {f : Request → Request}
    (same : ∀ r, (f r).kind = r.kind ∧ (f r).station = r.station) {r : Request}
    (h : ((s.writeSlot i f).slot j).request? = some r) :
    ∃ r', (s.slot j).request? = some r' ∧ r'.kind = r.kind ∧ r'.station = r.station := by
  rw [s.writeSlot_slot] at h
  split at h
  next eq =>
    subst eq
    cases hs : s.slot j <;> rw [hs] at h <;> simp only [Slot.onLine, Slot.request?] at h <;> cases h
    · exact ⟨_, rfl, rfl, rfl⟩
    · exact ⟨_, rfl, (same _).1.symm, (same _).2.symm⟩
    · exact ⟨_, rfl, (same _).1.symm, (same _).2.symm⟩
  next => exact ⟨r, h, rfl, rfl⟩

/-- The slot on the line, its attempt counted. -/
theorem Slot.Ok.count {x : Slot} (h : x.Ok)
    (room : ∀ r, x.request? = some r → r.attempts ≤ r.retryBudget.getD 7) :
    (x.onLine fun r => { r with attempts := r.attempts + 1 }).Ok := by
  have ranges : ∀ r : Request, r.Ok → r.attempts ≤ r.retryBudget.getD 7 →
      Request.Ok { r with attempts := r.attempts + 1 } := by
    rintro r ⟨tag, length, station, budget, limit, bound, -, reason, reply⟩ room
    exact ⟨tag, length, station, budget, limit, bound, by dsimp only; omega, reason, reply⟩
  cases x with
  | free | pending => exact h
  | active p r | orphaned r =>
    obtain ⟨ok, progress⟩ := h
    refine ⟨fun r' hr' => ?_, ?_⟩
    · cases hr'
      exact ranges r (ok r rfl) (room r rfl)
    · simp only [Slot.progressOk, Slot.onLine] at progress ⊢
      simp at progress ⊢
      exact progress.2

theorem State.Orderly.countAttempt (h : s.Orderly) {source : Source}
    (room : ∀ i, source = .request i → ∀ r, (s.slot i).request? = some r →
      r.attempts ≤ r.retryBudget.getD 7) : (s.countAttempt source).Orderly := by
  cases source with
  | visit => exact h
  | request i =>
    refine h.keeps (.of_eq (by simp [State.countAttempt])) ?_ (fun c hc => ⟨c, by simpa [State.countAttempt] using hc, rfl⟩) ?_
    · exact h.fit.writeSlot (fun _ => rfl) ((h.fit.ok i).count (room i rfl))
    · exact fun j r hr => State.writeSlot_requests (i := i)
        (f := fun r => { r with attempts := r.attempts + 1 }) (fun _ => ⟨rfl, rfl⟩) hr

/-! ### A transaction begins -/

theorem State.needsProbe_mayProbe (h : s.needsProbe x = true) : x.main.mayProbe = true := by
  unfold State.needsProbe at h
  cases hm : x.main <;> simp [hm] at h <;> rfl

theorem Slot.onLine_request? {y : Slot} {f : Request → Request} (onLine : y.onTheLine = true) :
    (y.onLine f).request? = y.request?.map f := by
  cases y with
  | active | orphaned => rfl
  | free | pending => cases onLine

theorem State.countAttempt_slot (s : State) (source : Source) (j : Nat) :
    (s.countAttempt source).slot j =
      if source = .request j then (s.slot j).onLine fun r => { r with attempts := r.attempts + 1 }
      else s.slot j := by
  cases source with
  | visit => rfl
  | request i =>
    simp only [State.countAttempt, s.writeSlot_slot, Source.request.injEq]
    by_cases eq : j = i
    · subst eq; simp
    · simp [eq, Ne.symm eq]

/-- An attempt begins with the frame that its station's bits call for (R82, R83). -/
theorem State.Serves.begin (h : s.Serves x) :
    ∃ phase, (s.beginAttempt x).Underway { x with phase := phase } := by
  obtain ⟨line, busy, request, visit, only⟩ := h
  have slots : ∀ j, (s.beginAttempt x).slot j = (s.countAttempt x.source).slot j :=
    State.slot_congr (s.beginAttempt_effect x).2.1
  have scheduler := (s.beginAttempt_effect x).1
  have serves : ∀ ph, ph ≠ .awaitRetry → (s.beginAttempt x).Serves { x with phase := ph } := fun ph hph => by
    refine ⟨scheduler ▸ line, scheduler ▸ busy, fun i hi => ?_, fun hv => ⟨(visit hv).1, hph⟩, fun i hi => ?_⟩
    · obtain ⟨onLine, named⟩ := request i hi
      rw [slots, State.countAttempt_onTheLine]
      refine ⟨onLine, ?_⟩
      rw [State.countAttempt_slot, if_pos hi, Slot.onLine_request? onLine, Option.map_map]
      exact named
    · rw [slots, State.countAttempt_onTheLine] at hi
      exact only i hi
  generalize ht : s.beginAttempt x = t at *
  unfold State.beginAttempt at ht
  dsimp only at ht
  split at ht
  next probe =>
    exact ⟨.joinProbe, by rw [← ht]; rfl, serves _ (by decide), by
      rw [← ht]
      exact ⟨rfl, rfl, State.needsProbe_mayProbe probe⟩⟩
  next probe =>
    refine ⟨.mainFrame, by rw [← ht]; rfl, serves _ (by decide), ?_⟩
    rw [← ht]
    exact ⟨rfl, rfl, Bool.eq_false_iff.2 probe⟩

/-- The kind of a request's main frame is that of a broadcast where the request is one. -/
theorem RequestKind.main_eq_broadcast (k : RequestKind) : k.main = .broadcast ↔ k = .broadcast := by
  cases k <;> simp [RequestKind.main]

/-- An orderly state with a transaction underway is coherent. -/
theorem State.Orderly.coherent (h : s.Orderly) (underway : s.Underway x)
    (station : x.source = .visit → (s.station? x.station).isSome = true) : s.Coherent := by
  refine ⟨h, fun y hy main => ?_, .inr ⟨_, underway⟩⟩
  rw [underway.transaction] at hy
  cases hy
  cases source : x.source with
  | visit => exact station source
  | request i =>
    obtain ⟨onLine, named⟩ := underway.serves.request i source
    obtain ⟨r, hr, eq⟩ := Option.map_eq_some_iff.1 named
    simp only [Prod.mk.injEq] at eq
    rw [← eq.1]
    refine h.requests i r hr fun kind => main ?_
    exact eq.2.symm.trans ((RequestKind.main_eq_broadcast _).2 kind)

/-- A transaction that serves its slot and has room for another attempt begins one. -/
theorem State.Orderly.begin (h : s.Orderly) (serves : s.Serves x)
    (room : ∀ i, x.source = .request i → ∀ r, (s.slot i).request? = some r →
      r.attempts ≤ r.retryBudget.getD 7)
    (station : x.source = .visit → (s.station? x.station).isSome = true) :
    (s.beginAttempt x).Coherent := by
  obtain ⟨ph, underway⟩ := serves.begin
  have counted := h.countAttempt room
  have orderly : (s.beginAttempt x).Orderly :=
    counted.same (.of_eq (by simp)) (s.beginAttempt_effect x).2.1 (by simp) fun c hc =>
      ⟨c, by simpa using hc, rfl⟩
  refine orderly.coherent underway fun source => ?_
  rw [(State.SameWire.of_eq (s := s) (t := s.beginAttempt x) (by simp)).isSome]
  exact station source

end

end Sys2Proof.Machine

/-! Every operation keeps the course of the transaction, the slots and the directory in agreement. -/

namespace Sys2Proof.Machine

section
variable {s t : State} {x : Transaction}

/-! ### Selections -/

/-- A PENDING request chosen for the line, its budget settled and its first attempt counted. -/
theorem Slot.Ok.chosen {p : Port} {r : Request} (h : (Slot.pending p r).Ok) {budget : Nat}
    (range : budget ≤ 7) :
    (Slot.active p
      { r with retryBudget := some (r.retryBudget.getD budget), attempts := r.attempts + 1 }).Ok := by
  obtain ⟨ok, progress⟩ := h
  obtain ⟨tag, length, station, hbudget, limit, bound, -, reason, reply⟩ := ok r rfl
  simp only [Slot.progressOk, decide_eq_true_eq] at progress
  refine ⟨fun r' hr' => ?_, by simp [Slot.progressOk]⟩
  cases hr'
  have le : r.retryBudget.getD budget ≤ 7 := by
    cases hb : r.retryBudget with
    | none => exact range
    | some b => exact hbudget b hb
  refine ⟨tag, length, station, fun b hb => ?_, limit, bound, ?_, reason, reply⟩
  · cases hb; exact le
  · simp [progress.1]

/-- A chosen request begins its first attempt (R50, R71, R72, R81). -/
theorem State.Coherent.beginRequest (h : s.Coherent) {p : Port} {i : Nat} {r : Request}
    (slot : s.slot i = .pending p r) (running : s.scheduler.line = .running)
    (free : s.scheduler.busy = .none) (budget : s.engine.active.retryBudget ≤ 7) :
    ((s.takeChoice p i).beginRequest p i r).Coherent := by
  have rest : s.Rest := by
    rcases h.course with rest | ⟨x, underway⟩
    · exact rest
    · exact absurd (underway.serves.busy.symm.trans free) x.busy_ne_none
  have inside : i < (s.takeChoice p i).slots.length := by
    have : (s.takeChoice p i).slots = s.slots := by simp
    rw [this]
    exact State.inside_of_slot (by simp [slot])
  have before : ∀ j, (s.takeChoice p i).slot j = s.slot j := State.slot_congr (by simp)
  unfold State.beginRequest
  dsimp only
  generalize hb : r.retryBudget.getD (s.takeChoice p i).engine.active.retryBudget = b
  generalize hx : ({ source := .request i, station := r.station, main := r.kind.main,
                     phase := .mainFrame } : Transaction) = x
  generalize hv : ((s.takeChoice p i).setSlot i (.active p { r with retryBudget := some b })).withScheduler
    { (s.takeChoice p i).scheduler with
      credit := satInc 8 (s.takeChoice p i).scheduler.credit, busy := .request i } = v
  have slots : ∀ j, v.slot j =
      if j = i then .active p { r with retryBudget := some b } else s.slot j := fun j => by
    rw [← hv, ← before]
    exact State.setSlot_slot inside _ j
  have serves : v.Serves x := by
    subst hx
    refine ⟨?_, ?_, fun j hj => ?_, nofun, fun j hj => ?_⟩
    · rw [← hv]
      simp [running]
    · rw [← hv]; rfl
    · cases hj
      rw [slots, if_pos rfl]
      exact ⟨rfl, rfl⟩
    · rw [slots] at hj
      split at hj
      next eq => rw [eq]
      next => rw [rest.off j] at hj; cases hj
  obtain ⟨ph, underway⟩ := serves.begin
  refine State.Orderly.coherent ?_ underway (by subst hx; nofun)
  have ok := (slot ▸ h.orderly.fit.ok i : (Slot.pending p r).Ok).chosen budget
  have chosen := h.orderly.fit.takeOff slot ok (fun _ => rfl) fun q hq => by
    obtain rfl : p = q := by simpa [Slot.owner?] using hq
    exact ⟨rfl, rfl⟩
  have engine : (s.takeChoice p i).engine = s.engine := by simp
  rw [engine] at hb
  rw [hb] at chosen
  have final : (v.beginAttempt x).slots = ((s.unlist p i).setSlot i (.active p
      { r with retryBudget := some b, attempts := r.attempts + 1 })).slots := by
    rw [(v.beginAttempt_effect x).2.1]
    subst hx
    simp only [State.countAttempt, State.writeSlot, slots, if_pos]
    rw [← hv]
    simp [State.setSlot, Slot.onLine]
  refine h.orderly.keeps (.of_eq ?_) (chosen.of_eq final ?_) (fun c hc => ⟨c, ?_, rfl⟩) fun j r' hr => ?_
  · rw [← hv]; simp
  · rw [← hv]; simp [State.takeChoice]
  · rw [← hv] at hc; simpa using hc
  · rw [State.slot_congr final, State.setSlot_slot (by simpa using inside),
      State.slot_congr (s := s) (by simp)] at hr
    split at hr
    next eq =>
      cases hr
      exact ⟨r, by rw [eq, slot]; rfl, rfl, rfl⟩
    next => exact ⟨r', hr, rfl, rfl⟩

theorem State.station?_isSome_of_mem {e : StationEntry} (mem : e ∈ s.directory) :
    (s.station? e.address).isSome = true := by
  cases h : s.station? e.address with
  | some => rfl
  | none => exact absurd rfl ((s.station?_none _).1 h e mem)

/-- A visit begins (R73, R81). -/
theorem State.Coherent.beginVisit (h : s.Coherent) {a : Nat} (credit : Nat)
    (running : s.scheduler.line = .running) (free : s.scheduler.busy = .none)
    (station : (s.station? a).isSome = true) : (s.beginVisit a credit).Coherent := by
  have rest : s.Rest := by
    rcases h.course with rest | ⟨x, underway⟩
    · exact rest
    · exact absurd (underway.serves.busy.symm.trans free) x.busy_ne_none
  unfold State.beginVisit
  dsimp only
  refine State.Orderly.begin ?_ ⟨?_, rfl, nofun, fun _ => ⟨?_, nofun⟩, fun i hi => ?_⟩ nofun fun _ => station
  · exact h.orderly.same (.of_eq rfl) rfl rfl fun c hc => ⟨c, hc, rfl⟩
  · simp [running]
  · dsimp only
    split <;> simp
  · have off := rest.off i
    have on : (s.slot i).onTheLine = true := hi
    rw [off] at on
    cases on

theorem State.sweepSearch_course (s : State) :
    s.sweepSearch.scheduler.line = s.scheduler.line ∧ s.sweepSearch.scheduler.busy = s.scheduler.busy := by
  unfold State.sweepSearch
  split
  · rw [s.endSweep_scheduler]
    exact ⟨rfl, rfl⟩
  · exact ⟨rfl, rfl⟩

theorem State.Coherent.select (h : s.Coherent) (budget : s.engine.active.retryBudget ≤ 7) :
    s.select.Coherent := by
  unfold State.select
  split
  next free =>
    obtain ⟨running, -, busy⟩ : s.scheduler.line = .running ∧ s.engine.phase = .idle ∧
        s.scheduler.busy = .none := by simpa [State.lineFree] using free
    have stationOf : ∀ a, s.sweepFinds? = some a → (s.station? a).isSome = true := fun a ha => by
      obtain ⟨e, mem, rfl, -⟩ := State.sweepFinds?_some ha
      exact State.station?_isSome_of_mem mem
    refine State.choose_cases
      (fun u => u.Coherent ∧ u.scheduler.line = .running ∧ u.scheduler.busy = .none ∧
        u.engine = s.engine ∧ u.directory = s.directory)
      State.Coherent ?_ ?_ ?_ (fun u h _ _ => h.1) _ _ (by simp) ⟨?_, ?_, ?_, by simp, by simp⟩
    · rintro u p i q r ⟨h, running, free, engine, directory⟩ candidate slot _
      obtain rfl : p = q := h.orderly.fit.listsOwn.only slot (State.candidate?_some candidate).1
      refine ⟨h.endPending (d := { u.scheduler with pointer := p }) slot rfl rfl _, ?_, ?_, ?_, ?_⟩
      · simpa using running
      · simpa using free
      · simpa using engine
      · simpa using directory
    · rintro u a credit ⟨h, running, free, -, directory⟩ found
      refine h.beginVisit credit running free ?_
      have := stationOf a found
      simpa only [State.station?, directory] using this
    · rintro u p i q r ⟨h, running, free, engine, -⟩ candidate slot _
      obtain rfl : p = q := h.orderly.fit.listsOwn.only slot (State.candidate?_some candidate).1
      exact h.beginRequest slot running free (engine ▸ budget)
    · exact h.same (.of_eq (by simp)) (by simp) s.sweepSearch_course.2 s.sweepSearch_course.1 (by simp)
        (by simp) (by simp) fun c hc => ⟨c, by simpa using hc, rfl⟩
    · rw [s.sweepSearch_course.1, running]
    · rw [s.sweepSearch_course.2, busy]
  next => exact h

/-! ### The end of a transaction -/

theorem State.rest_of_endTransaction (phase : s.engine.phase = .idle ∨ s.engine.phase = .gap)
    (off : ∀ i, (s.slot i).onTheLine = false) : s.endTransaction.Rest := by
  refine ⟨s.endTransaction_transaction, ?_, by simpa using phase, ?_, fun i => ?_⟩
  · rw [s.endTransaction_scheduler]
  · rw [s.endTransaction_scheduler]
    split <;> simp [*]
  · rw [State.slot_congr (s := s) (by simp)]
    exact off i

theorem State.Orderly.endTransaction (h : s.Orderly)
    (phase : s.engine.phase = .idle ∨ s.engine.phase = .gap)
    (off : ∀ i, (s.slot i).onTheLine = false) : s.endTransaction.Coherent := by
  refine ⟨h.same (.of_eq (by simp)) (by simp) (by simp) fun c hc => ⟨c, by simpa using hc, rfl⟩,
    fun x hx => ?_, .inl (State.rest_of_endTransaction phase off)⟩
  rw [s.endTransaction_transaction] at hx
  cases hx

/-- The request that the transaction serves ends, and its slot is FREE. -/
theorem State.Orderly.endRequest (h : s.Orderly) {i : Nat} (onLine : (s.slot i).onTheLine = true)
    (status : CompletionStatus) : (s.endRequest i status).Orderly := by
  refine h.keeps (.of_eq (by simp))
    ((h.fit.free onLine).of_eq (s.endRequest_slots i status) (by simp))
    (fun c hc => ⟨c, by simpa using hc, rfl⟩) fun j r hr => ⟨r, State.endRequest_requests hr, rfl, rfl⟩

theorem State.endRequest_off {i : Nat} (only : ∀ j, (s.slot j).onTheLine = true → j = i)
    (status : CompletionStatus) (j : Nat) : ((s.endRequest i status).slot j).onTheLine = false := by
  rw [s.endRequest_slot]
  split
  · rfl
  next ne => exact Bool.eq_false_iff.2 fun on => ne (only j on)

theorem State.Serves.only_index (h : s.Serves x) {i : Nat} (source : x.source = .request i) (j : Nat)
    (on : (s.slot j).onTheLine = true) : j = i := by
  have := h.only j on
  rw [source] at this
  cases this
  rfl

theorem State.Orderly.finishRequest (h : s.Orderly) (serves : s.Serves x) {i : Nat}
    (source : x.source = .request i) (phase : s.engine.phase = .idle ∨ s.engine.phase = .gap)
    (status : CompletionStatus) : (s.finishRequest i status).Coherent :=
  (h.endRequest (serves.request i source).1 status).endTransaction (by simpa using phase)
    (State.endRequest_off (serves.only_index source) status)

/-- A visit's transaction ends. -/
theorem State.Orderly.endVisit (h : s.Orderly) (serves : s.Serves x) (source : x.source = .visit)
    (phase : s.engine.phase = .idle ∨ s.engine.phase = .gap) : s.endTransaction.Coherent :=
  h.endTransaction phase fun i => Bool.eq_false_iff.2 fun on => by
    have := serves.only i on
    rw [source] at this
    cases this

/-- The record in another phase, the engine being in its gap. -/
theorem State.Orderly.setPhase (h : s.Orderly) (serves : s.Serves x) {ph : Phase}
    (visit : x.source = .visit → ph ≠ .awaitRetry)
    (fits : (s.setPhase x ph).PhaseFits { x with phase := ph })
    (station : x.source = .visit → (s.station? x.station).isSome = true) : (s.setPhase x ph).Coherent := by
  refine State.Orderly.coherent (h.same (.of_eq rfl) rfl rfl fun c hc => ⟨c, hc, rfl⟩)
    (x := { x with phase := ph }) ⟨rfl, ?_, fits⟩ station
  exact ⟨serves.line, serves.busy, serves.request, fun hv => ⟨(serves.visit hv).1, visit hv⟩, serves.only⟩

/-- A further attempt is due after a failure alone, with no cancel, no OFFLINE and budget left (R95). -/
theorem State.attemptStatus_none {r : Request} {v : Verdict} (h : s.attemptStatus r v = none) :
    (∃ f, v = .failure f) ∧ r.cancelRequested = false ∧ s.isOffline r.station = false ∧
      r.spent = false := by
  unfold State.attemptStatus at h
  split at h
  next => cases h
  next => cases h
  next => cases h
  next f =>
    split at h
    · cases h
    next kept =>
      split at h
      · cases h
      next online =>
        split at h
        · cases h
        next left => exact ⟨⟨f, rfl⟩, by simpa using kept, by simpa using online, by simpa using left⟩

/-- The end of an attempt (R95, R98, R99, R101). -/
theorem State.Orderly.endAttempt (h : s.Orderly) (serves : s.Serves x) (gap : s.engine.phase = .gap)
    (v : Verdict) : (s.endAttempt x v).Coherent := by
  unfold State.endAttempt
  split
  next source => exact h.endVisit serves source (.inr gap)
  next i source =>
    obtain ⟨onLine, named⟩ := serves.request i source
    split
    next q r slot =>
      split
      next => exact h.finishRequest serves source (.inr gap) _
      next due =>
        refine h.setPhase serves (fun hv => by rw [source] at hv; cases hv) ⟨gap, ?_⟩
          fun hv => by rw [source] at hv; cases hv
        obtain ⟨-, -, -, unspent⟩ := State.attemptStatus_none due
        have same : (s.setPhase x .awaitRetry).slot i = s.slot i := rfl
        simp [State.retryDue, source, same, slot, Slot.request?, unspent]
    next => exact h.finishRequest serves source (.inr gap) _
    next free => rw [free] at onLine; cases onLine
    next pending => rw [pending] at onLine; cases onLine

/-! ### Judgements -/

section
variable {sent : MainKind} {sBit : Bool} {limit : Nat} {result : ExchangeResult}

/-- A valid-reply report follows a SEND, FETCH or POLL alone (R86 to R89). -/
theorem judge_validReply {noise advance : Bool}
    (h : (judge sent sBit limit result).report = .validReply noise advance) :
    sent.mayProbe = true := by
  cases result with
  | frame r =>
    simp only [judge, judgeFrame] at h
    split at h <;> simp_all [Judgement.failed, MainKind.mayProbe]
  | _ => cases h

/-- A join probe succeeds with a successful-probe report, and brings no report of the station's
(R85). -/
theorem judge_probe_success (heard : result ≠ .sent)
    (h : (judge .probe sBit limit result).verdict = .success) :
    ∃ noise, (judge .probe sBit limit result).report = .successfulProbe noise ∧
      (judge .probe sBit limit result).store = none := by
  cases result with
  | frame r =>
    simp only [judge, judgeFrame] at h ⊢
    split at h <;> simp_all [Judgement.failed]
  | sent => exact absurd rfl heard
  | invalid | silent | stray => cases h

/-- What a judgement writes in a slot is in its range (Table 3-1). -/
theorem judge_ranges (ok : result.Ok) :
    (∀ b ∈ (judge sent sBit limit result).reply, b.length ≤ 32) ∧
      ∀ n, (judge sent sBit limit result).verdict = .refused n → n ≤ 7 := by
  cases result with
  | frame r =>
    obtain ⟨length, reason⟩ := ok
    simp only [judge, judgeFrame]
    split <;> simp_all [Judgement.failed, Judgement.valid, FrameKind.allowsLength]
    all_goals split <;> simp_all
  | _ => simp [judge, Judgement.failed]

end

theorem Judgement.write_same (j : Judgement) (r : Request) :
    (j.write r).tag = r.tag ∧ (j.write r).kind = r.kind ∧ (j.write r).station = r.station ∧
      (j.write r).payload = r.payload ∧ (j.write r).attempts = r.attempts ∧
      (j.write r).retryBudget = r.retryBudget ∧ (j.write r).replyLimit = r.replyLimit := by
  unfold Judgement.write
  dsimp only
  split <;> exact ⟨rfl, rfl, rfl, rfl, rfl, rfl, rfl⟩

theorem Judgement.write_ok {j : Judgement} (reply : ∀ b ∈ j.reply, b.length ≤ 32)
    (refused : ∀ n, j.verdict = .refused n → n ≤ 7) {r : Request} (h : r.Ok) : (j.write r).Ok := by
  obtain ⟨tag, length, station, budget, limit, bound, attempts, reason, payload⟩ := h
  have payload' : ∀ b ∈ (j.reply.orElse fun _ => r.replyPayload), b.length ≤ 32 := fun b hb => by
    cases hj : j.reply with
    | none => exact payload b (by simpa [hj] using hb)
    | some y => exact reply b (by simpa [hj] using hb)
  unfold Judgement.write
  dsimp only
  split
  · exact ⟨tag, length, station, budget, limit, bound, attempts, reason, payload'⟩
  next n verdict =>
    refine ⟨tag, length, station, budget, limit, bound, attempts, fun m hm => ?_, payload'⟩
    cases hm
    exact refused _ verdict
  · exact ⟨tag, length, station, budget, limit, bound, attempts, reason, payload'⟩
  · exact ⟨tag, length, station, budget, limit, bound, attempts, reason, payload'⟩

theorem Slot.Ok.write {y : Slot} (h : y.Ok) {j : Judgement} (reply : ∀ b ∈ j.reply, b.length ≤ 32)
    (refused : ∀ n, j.verdict = .refused n → n ≤ 7) : (y.onLine j.write).Ok := by
  cases y with
  | free | pending => exact h
  | active p r | orphaned r =>
    obtain ⟨ok, progress⟩ := h
    refine ⟨fun r' hr' => ?_, ?_⟩
    · cases hr'
      exact Judgement.write_ok reply refused (ok r rfl)
    · obtain ⟨-, -, -, -, attempts, budget, -⟩ := j.write_same r
      simp only [Slot.progressOk, Slot.onLine, attempts, budget] at progress ⊢
      exact progress

/-- An entry takes another's place and is synchronised as its state asks. -/
theorem State.Orderly.putStation (h : s.Orderly) (directory : s.DirectoryOk) {e e' : StationEntry}
    (found : s.station? e.address = some e) (address : e'.address = e.address) (ok : e'.SyncOk) :
    (s.putStation e').Orderly := by
  have self : (s.putStation e').station? e.address = some e' := by
    rw [← address]
    exact tableFind_put_self StationEntry.address e' directory.2.1
  have others : ∀ a, a ≠ e.address → (s.putStation e').station? a = s.station? a := fun a ne =>
    tableFind_put_ne (by rw [address]; exact ne) s.directory
  have isSome : ∀ a, ((s.putStation e').station? a).isSome = (s.station? a).isSome := fun a => by
    by_cases ha : a = e.address
    · rw [ha, self, found]
      rfl
    · rw [others a ha]
  exact
    { fit := h.fit.of_eq (by simp) (by simp)
      synchronised := fun a d hd => by
        by_cases ha : a = e.address
        · rw [ha, self] at hd
          cases hd
          exact ok
        · exact h.synchronised a d (others a ha ▸ hd)
      targets := fun c hc named => by
        rw [isSome]
        exact h.targets c (by simpa using hc) named
      requests := fun i r hr kind => by
        rw [isSome]
        exact h.requests i r hr kind }

theorem State.Orderly.offers (h : s.Orderly) (directory : t.directory = s.directory) (slots : t.slots = s.slots)
    (lists : t.lists = s.lists) (claims : t.claims = s.claims) : t.Orderly :=
  h.same (.of_eq directory) slots lists fun c hc => ⟨c, claims ▸ hc, rfl⟩

theorem State.Orderly.changeStation (h : s.Orderly) (directory : s.DirectoryOk) (a : Nat)
    {f : StationEntry → StationEntry} (address : ∀ e, (f e).address = e.address)
    (ok : ∀ e, s.station? a = some e → e.SyncOk → (f e).SyncOk) : (s.changeStation a f).Orderly := by
  have put : ∀ e, s.station? a = some e → (s.putStation (f e)).Orderly := fun e found => by
    obtain ⟨-, rfl⟩ := State.station?_some found
    exact h.putStation directory found (address e) (ok e found (h.synchronised _ e found))
  rcases s.changeStation_cases a f with ⟨-, eq⟩ | ⟨e, found, ⟨-, eq⟩ | ⟨-, eq⟩⟩
  · rw [eq]; exact h
  · rw [eq]; exact put e found
  · rw [eq]
    exact (put e found).offers (by simp) (by simp) (by simp) (by simp)

theorem StationEntry.SyncOk.failedAttempt {e : StationEntry} (h : e.SyncOk) {threshold : Nat}
    (least : 2 ≤ threshold) : (e.failedAttempt threshold).SyncOk := by
  obtain ⟨unknown, online, offline⟩ := h
  unfold StationEntry.failedAttempt
  dsimp only
  split
  next reached => exact ⟨nofun, nofun, fun _ => ⟨rfl, least.trans reached⟩⟩
  next =>
    split
    · exact ⟨nofun, nofun, nofun⟩
    next other =>
      refine ⟨fun eq => absurd (.inl eq) other, fun eq => absurd (.inr eq) other, fun eq => ?_⟩
      obtain ⟨sync, two⟩ := offline eq
      refine ⟨sync, ?_⟩
      simp only [satInc]
      omega

/-- What a report does to a directory in order: a valid reply comes from a synchronised station (R12 to
R14). -/
theorem State.Orderly.applyReport (h : s.Orderly) (directory : s.DirectoryOk)
    (threshold : 2 ≤ s.engine.active.offlineThreshold) (a : Nat) {r : StationReport}
    (joined : ∀ noise advance, r = .validReply noise advance → ∀ e, s.station? a = some e →
      e.synchronised = true) : (s.applyReport a r).Orderly := by
  cases r with
  | none => exact h
  | validReply noise advance =>
    exact h.changeStation directory a (fun _ => rfl) fun e found _ =>
      ⟨nofun, fun _ => joined noise advance rfl e found, nofun⟩
  | successfulProbe noise =>
    exact h.changeStation directory a (fun _ => rfl) fun e _ _ => ⟨nofun, fun _ => rfl, nofun⟩
  | failedAttempt =>
    refine h.changeStation directory a (fun e => ?_) fun e _ ok => ok.failedAttempt threshold
    unfold StationEntry.failedAttempt
    dsimp only
    split
    · rfl
    · split <;> rfl

theorem State.Orderly.storeReport (h : s.Orderly) (directory : s.DirectoryOk) (a : Nat)
    (r : Option (Bool × List Byte × Bool)) : (s.storeReport a r).Orderly := by
  cases r with
  | none => exact h
  | some y =>
    obtain ⟨sBit, payload, noise⟩ := y
    have put : ∀ e e' : StationEntry, s.station? a = some e → e'.address = e.address → e'.state = e.state →
        e'.synchronised = e.synchronised → e'.miss = e.miss → (s.putStation e').Orderly := by
      intro e e' found address state sync miss
      obtain ⟨-, rfl⟩ := State.station?_some found
      refine h.putStation directory found address ?_
      simpa only [StationEntry.SyncOk, state, sync, miss] using h.synchronised _ e found
    rcases s.judgeReport_cases a sBit payload noise with eq | ⟨e, found, eq | eq | ⟨i, -, eq⟩⟩
    all_goals simp only [State.storeReport, eq]
    · exact h
    · exact put e _ found rfl rfl rfl rfl
    · exact put e _ found rfl rfl rfl rfl
    · have := put e (StationEntry.consumed
        { e with subscribers := e.subscribers.map fun x => { x with gap := !s.admits x.port } }
        (decide (e.subscribers.countP (fun x => s.admits x.port) = 0))) found rfl rfl rfl rfl
      exact this.offers (by simp [State.deliverReport, State.putStation, State.setBuffer]) (by simp) (by simp)
        (by simp)

/-! ### The end of an exchange -/

theorem State.writeSource_slot (s : State) (j : Judgement) (source : Source) (i : Nat) :
    (s.writeSource j source).slot i =
      if source = .request i then (s.slot i).onLine j.write else s.slot i := by
  cases source with
  | visit => rfl
  | request k =>
    simp only [State.writeSource, s.writeSlot_slot, Source.request.injEq]
    by_cases eq : i = k
    · subst eq; simp
    · simp [eq, Ne.symm eq]

theorem State.Orderly.writeSource (h : s.Orderly) {j : Judgement} (reply : ∀ b ∈ j.reply, b.length ≤ 32)
    (refused : ∀ n, j.verdict = .refused n → n ≤ 7) (source : Source) : (s.writeSource j source).Orderly := by
  cases source with
  | visit => exact h
  | request i =>
    refine h.keeps (.of_eq (by simp)) ?_ (fun c hc => ⟨c, by simpa using hc, rfl⟩) fun k r hr => ?_
    · exact h.fit.writeSlot (fun r => (j.write_same r).1) ((h.fit.ok i).write reply refused)
    · exact State.writeSlot_requests (fun r => ⟨(j.write_same r).2.1, (j.write_same r).2.2.1⟩) hr

theorem Slot.lineKey_onLine_write (y : Slot) (j : Judgement) :
    (y.onLine j.write).lineKey = y.lineKey := by
  cases y with
  | free | pending => rfl
  | active p r | orphaned r =>
    obtain ⟨-, kind, station, payload, attempts, budget, -⟩ := j.write_same r
    simp only [Slot.onLine, Slot.lineKey, kind, station, payload, attempts, budget]

/-- The judgement of a result leaves who is served as it is. -/
theorem State.Serves.judged (h : s.Serves x) (j : Judgement) :
    (((s.applyReport x.station j.report).storeReport x.station j.store).writeSource j x.source).Serves x := by
  have scheduler : (((s.applyReport x.station j.report).storeReport x.station j.store).writeSource j
      x.source).scheduler = s.scheduler := by simp
  have slot : ∀ i, ((s.applyReport x.station j.report).storeReport x.station j.store).slot i = s.slot i :=
    State.slot_congr (by simp)
  refine h.steady ⟨by simp, by rw [scheduler], ?_, ?_, .inl (by simp), by simp, fun i => ?_⟩
  · rw [scheduler]
    exact fun eq => absurd eq h.line
  · rw [scheduler, h.busy]
    exact fun _ => x.busy_ne_none
  · rw [State.writeSource_slot, slot]
    split
    · exact Slot.lineKey_onLine_write _ _
    · rfl

/-- The result of a transaction's exchange is judged in the gap (R92). -/
theorem State.Orderly.handResult (h : s.Orderly) (directory : s.DirectoryOk)
    (threshold : 2 ≤ s.engine.active.offlineThreshold) (serves : s.Serves x) (gap : s.engine.phase = .gap)
    (sBit : Bool) {result : ExchangeResult} (ok : result.Ok)
    (station : x.main ≠ .broadcast → (s.station? x.station).isSome = true)
    (probe : x.phase = .joinProbe → x.main.mayProbe = true ∧ result ≠ .sent)
    (main : x.phase ≠ .joinProbe → x.phase = .mainFrame ∧ s.needsProbe x = false) :
    (s.handResult x sBit result).Coherent := by
  unfold State.handResult
  dsimp only
  generalize hj : judge x.sentKind sBit (s.replyLimit x.source) result = j
  obtain ⟨reply, refused⟩ := judge_ranges (sent := x.sentKind) (sBit := sBit)
    (limit := s.replyLimit x.source) ok
  rw [hj] at reply refused
  have joined : ∀ noise advance, j.report = .validReply noise advance → ∀ e, s.station? x.station = some e →
      e.synchronised = true := by
    intro noise advance report e found
    have may : x.sentKind.mayProbe = true := judge_validReply (hj ▸ report)
    unfold Transaction.sentKind at may
    split at may
    next => cases may
    next other =>
      have needs := (main other).2
      unfold State.needsProbe at needs
      rw [found] at needs
      cases hm : x.main with
      | send | fetch | poll => simpa [hm] using needs
      | probe | broadcast => rw [hm] at may; cases may
  have told := h.applyReport directory threshold x.station joined
  have stored := told.storeReport (directory.applyReport _ _) x.station j.store
  have written := stored.writeSource reply refused x.source
  have still := serves.judged j
  have gap' : (((s.applyReport x.station j.report).storeReport x.station j.store).writeSource j
      x.source).engine.phase = .gap := by simpa using gap
  split
  next success =>
    obtain ⟨joining, verdict⟩ := success
    obtain ⟨may, heard⟩ := probe joining
    have kind : x.sentKind = .probe := by simp [Transaction.sentKind, joining]
    obtain ⟨noise, report, store⟩ := judge_probe_success heard (by rw [kind] at hj; rw [hj]; exact verdict)
    rw [kind] at hj
    rw [hj] at report store
    have broadcast : x.main ≠ .broadcast := by rintro eq; rw [eq] at may; cases may
    obtain ⟨e, found⟩ := Option.isSome_iff_exists.1 (station broadcast)
    obtain ⟨-, address⟩ := State.station?_some found
    have now : (((s.applyReport x.station j.report).storeReport x.station j.store).writeSource j
        x.source).station? x.station = some (e.successfulProbe noise) := by
      have put : (s.putStation (e.successfulProbe noise)).station? x.station =
          some (e.successfulProbe noise) := by
        rw [← address]
        exact tableFind_put_self StationEntry.address (e.successfulProbe noise) directory.2.1
      rw [report, store]
      simp only [State.station?, State.writeSource_frame, State.storeReport, State.applyReport] at put ⊢
      rcases s.changeStation_cases x.station (·.successfulProbe noise) with
        ⟨absent, -⟩ | ⟨d, hd, ⟨-, eq⟩ | ⟨-, eq⟩⟩
      · rw [found] at absent; cases absent
      · rw [found] at hd; cases hd
        rw [eq]; exact put
      · rw [found] at hd; cases hd
        rw [eq]; simpa using put
    refine written.setPhase still (fun _ => by decide) ⟨gap', ?_, may⟩ fun _ => by rw [now]; rfl
    unfold State.needsProbe
    have same : ∀ u : State, (u.setPhase x .awaitMain).station? x.station = u.station? x.station :=
      fun _ => rfl
    dsimp only
    rw [same, now]
    cases x.main <;> rfl
  next => exact written.endAttempt still gap' _

/-- The exchange that ends is the one that the phase of the transaction calls for (R84, R115). -/
theorem State.Coherent.endExchange (h : s.Coherent) (directory : s.DirectoryOk)
    (threshold : 2 ≤ s.engine.active.offlineThreshold) {e : Engine} {result : ExchangeResult}
    (ends : s.engine.Ends e result) : ((s.withEngine e).endExchange result).Coherent := by
  have idle : s.transaction = none → False := fun none => by
    rcases h.course with rest | ⟨x, underway⟩
    · have := ends.inExchange
      rcases rest.phase with eq | eq <;> rw [eq] at this <;> cases this
    · rw [underway.transaction] at none
      cases none
  unfold State.endExchange
  dsimp only
  split
  next none => exact (idle none).elim
  next x hx =>
    obtain ⟨y, underway⟩ : ∃ y, s.Underway y := by
      rcases h.course with rest | found
      · rw [State.withEngine_transaction, rest.transaction] at hx
        cases hx
      · exact found
    obtain rfl : x = y := by
      have := underway.transaction
      rw [State.withEngine_transaction] at hx
      rw [hx] at this
      exact Option.some.inj this
    refine State.Orderly.handResult (s := (s.withEngine e).withEngine (s.withEngine e).engine.enterGap)
      (h.orderly.offers rfl rfl rfl rfl) directory ?_
      ⟨underway.serves.line, underway.serves.busy, underway.serves.request, underway.serves.visit,
        underway.serves.only⟩ rfl _ ends.valid (h.station x hx) (fun joining => ?_) fun other => ?_
    · simpa [Engine.enterGap, ends.active] using threshold
    · have fits := underway.phase
      simp only [State.PhaseFits, joining] at fits
      obtain ⟨-, exchange, may⟩ := fits
      refine ⟨may, fun sent => ?_⟩
      obtain ⟨f, hf, zero⟩ := ends.sent sent
      rw [exchange] at hf
      cases hf
      have broadcast : x.main ≠ .broadcast := by rintro eq; rw [eq] at may; cases may
      obtain ⟨d, found⟩ := Option.isSome_iff_exists.1 (h.station x hx broadcast)
      have address := (State.station?_some found).2
      have range := (directory.entry found).1.1
      simp only [probeFrame] at zero
      omega
    · have fits := underway.phase
      have inExchange := ends.inExchange
      cases hp : x.phase with
      | joinProbe => exact absurd hp other
      | mainFrame =>
        simp only [State.PhaseFits, hp] at fits
        exact ⟨rfl, fits.2.2⟩
      | awaitMain | awaitRetry =>
        simp only [State.PhaseFits, hp] at fits
        rw [fits.1] at inExchange
        cases inExchange

/-! ### The end of the gap -/

theorem Request.spent_room {r : Request} (h : r.spent = false) (budget : r.retryBudget.isSome = true) :
    r.attempts ≤ r.retryBudget.getD 7 := by
  obtain ⟨b, hb⟩ := Option.isSome_iff_exists.1 budget
  simp only [Request.spent, hb, Option.getD_some, decide_eq_false_iff_not] at h ⊢
  omega

theorem Slot.Ok.budget {y : Slot} (h : y.Ok) (onLine : y.onTheLine = true) {r : Request}
    (hr : y.request? = some r) : r.retryBudget.isSome = true := by
  obtain ⟨-, progress⟩ := h
  cases y with
  | free | pending => cases onLine
  | active | orphaned =>
    cases hr
    simp only [Slot.progressOk, Bool.and_eq_true] at progress
    exact progress.2

/-- The engine enters IDLE, and the transaction goes on or ends (R93, R96, R115). -/
theorem State.Coherent.resumeTransaction (h : s.Coherent) (gap : s.engine.phase = .gap) :
    (s.withEngine s.engine.enterIdle).resumeTransaction.Coherent := by
  generalize hu : s.withEngine s.engine.enterIdle = u
  have orderly : u.Orderly := hu ▸ h.orderly.offers rfl rfl rfl rfl
  have idle : u.engine.phase = .idle := by rw [← hu]; rfl
  rcases h.course with rest | ⟨x, underway⟩
  · have none : u.transaction = none := by rw [← hu]; exact rest.transaction
    have same : u.resumeTransaction = u := by unfold State.resumeTransaction; rw [none]
    rw [same]
    refine ⟨orderly, fun y hy => (by rw [none] at hy; cases hy), .inl ⟨none, ?_, .inl idle, ?_, ?_⟩⟩
    · rw [← hu]; exact rest.busy
    · rw [← hu]; exact rest.line
    · rw [← hu]; exact rest.off
  · have some : u.transaction = some x := by rw [← hu]; exact underway.transaction
    have serves : u.Serves x := by
      rw [← hu]
      exact ⟨underway.serves.line, underway.serves.busy, underway.serves.request, underway.serves.visit,
        underway.serves.only⟩
    have station : x.main ≠ .broadcast → (u.station? x.station).isSome = true := fun main => by
      rw [← hu]; exact h.station x underway.transaction main
    have fits := underway.phase
    unfold State.resumeTransaction
    rw [some]
    dsimp only
    cases hp : x.phase with
    | joinProbe | mainFrame =>
      simp only [State.PhaseFits, hp] at fits
      have inExchange := fits.1
      rw [gap] at inExchange
      cases inExchange
    | awaitMain =>
      simp only [State.PhaseFits, hp] at fits
      obtain ⟨-, needs, may⟩ := fits
      refine State.Orderly.coherent (x := { x with phase := .mainFrame })
        (orderly.offers rfl rfl rfl rfl) ⟨rfl, ?_, rfl, rfl, ?_⟩ fun _ => station ?_
      · exact ⟨serves.line, serves.busy, serves.request, fun hv => ⟨(serves.visit hv).1, nofun⟩,
          serves.only⟩
      · rw [← hu]; exact needs
      · rintro eq
        rw [eq] at may
        cases may
    | awaitRetry =>
      simp only [State.PhaseFits, hp] at fits
      dsimp only
      split
      next source => exact absurd hp (serves.visit source).2
      next i source =>
        obtain ⟨onLine, -⟩ := serves.request i source
        split
        next q r slot =>
          split
          · exact orderly.finishRequest serves source (.inl idle) _
          · refine orderly.begin serves (fun k hk r' hr' => ?_) fun hv => by rw [source] at hv; cases hv
            rw [source] at hk
            cases hk
            have budget := (orderly.fit.ok i).budget onLine hr'
            rw [slot] at hr'
            cases hr'
            refine Request.spent_room ?_ budget
            have due := fits.2
            have same : s.slot i = u.slot i := by rw [← hu]; rfl
            simpa [State.retryDue, source, same, slot, Slot.request?] using due
        next => exact orderly.finishRequest serves source (.inl idle) _
        next free => rw [free] at onLine; cases onLine
        next pending => rw [pending] at onLine; cases onLine

/-! ### Cuts and teardowns -/

/-- LINE_CUT leaves the line at rest, the slot of the transaction FREE (R64, R100, R117). -/
theorem State.Coherent.cut (h : s.Coherent) {u : State}
    (line : u.scheduler.line ≠ .draining) (busy : u.scheduler.busy = .none)
    (transaction : u.transaction = none) (engine : u.engine = s.engine.cut)
    (slots : u.slots = s.cutTransaction.slots) (lists : u.lists = s.lists)
    (directory : u.directory = s.directory) (claims : u.claims = s.claims) : u.Coherent := by
  have phase : s.engine.cut.phase = .idle ∨ s.engine.cut.phase = .gap := by
    unfold Engine.cut
    split
    · exact .inr rfl
    · exact .inr rfl
    · exact .inr rfl
    · exact .inr rfl
    next gap => exact .inr gap
    next idle => exact .inl idle
  have ended : s.cutTransaction.Orderly ∧ ∀ i, (s.cutTransaction.slot i).onTheLine = false := by
    rcases h.course with rest | ⟨x, underway⟩
    · have same : s.cutTransaction = s := by unfold State.cutTransaction; rw [rest.transaction]
      rw [same]
      exact ⟨h.orderly, rest.off⟩
    · unfold State.cutTransaction
      rw [underway.transaction]
      dsimp only
      split
      next i source =>
        have finished := h.orderly.endRequest (underway.serves.request i source).1 .cut
        exact ⟨finished.offers rfl rfl rfl rfl,
          State.endRequest_off (underway.serves.only_index source) .cut⟩
      next source =>
        refine ⟨h.orderly.offers rfl rfl rfl rfl, fun i => Bool.eq_false_iff.2 fun on => ?_⟩
        have := underway.serves.only i on
        rw [source] at this
        cases this
  refine ⟨ended.1.offers (by simpa using directory) slots (by simpa using lists) (by simpa using claims),
    fun x hx => (by rw [transaction] at hx; cases hx),
    .inl ⟨transaction, busy, by rwa [engine], line, fun i => ?_⟩⟩
  rw [State.slot_congr slots]
  exact ended.2 i

theorem Slot.lineKey_tearDown (y : Slot) (p : Port) : (y.tearDown p).lineKey = y.lineKey := by
  cases y with
  | free | orphaned => rfl
  | pending q r | active q r =>
    unfold Slot.tearDown
    dsimp only
    split <;> rfl

theorem Slot.tearDown_requests {y : Slot} {p : Port} {r : Request}
    (h : (y.tearDown p).request? = some r) :
    ∃ r', y.request? = some r' ∧ r'.kind = r.kind ∧ r'.station = r.station := by
  cases y with
  | free | orphaned => exact ⟨r, h, rfl, rfl⟩
  | pending q r' =>
    unfold Slot.tearDown at h
    dsimp only at h
    split at h
    · cases h
    · exact ⟨r, h, rfl, rfl⟩
  | active q r' =>
    unfold Slot.tearDown at h
    dsimp only at h
    split at h
    · cases h
      exact ⟨r', rfl, rfl, rfl⟩
    · exact ⟨r, h, rfl, rfl⟩

theorem State.Coherent.leaving (h : s.Coherent) (p : Port) (cause : TeardownCause) :
    (s.leaving p cause).Coherent := by
  have slot := s.leaving_slot p cause
  refine h.steady (h.orderly.keeps (.of_eq (by simp [State.leaving])) (h.orderly.fit.leaving p cause)
    (fun c hc => ⟨c, by simpa using hc, rfl⟩) fun i r hr => ?_) ?_ fun _ _ => State.SameWire.of_eq (by simp [State.leaving]) _
  · rw [slot] at hr
    exact Slot.tearDown_requests hr
  · have scheduler : (s.leaving p cause).scheduler = s.scheduler := by simp [State.leaving]
    refine ⟨by simp [State.leaving], by rw [scheduler], by rw [scheduler]; exact h.line.1,
      by rw [scheduler]; exact h.line.2, .inl (by simp [State.leaving]), by simp [State.leaving], fun i => ?_⟩
    rw [slot]
    exact Slot.lineKey_tearDown _ p

end

end Sys2Proof.Machine

/-! Every happening keeps a sound state sound: the course of the transaction, the tick in progress and
device reset, besides the groups that are kept on their own. -/

namespace Sys2Proof.Machine

section
variable {c : Instr} {p : Port} {s t : State} {x : Transaction}

/-! ### Claims and ports that leave -/

theorem State.Coherent.holderLeaves (h : s.Coherent) (shape : s.ClaimsShape)
    (budget : s.engine.active.retryBudget ≤ 7) (target : Nat) : (s.holderLeaves target).Coherent := by
  unfold State.holderLeaves
  split
  next => exact h
  next c found =>
    have mem := (State.claim?_some found).1
    have passed : (s.passClaim c).Coherent := by
      refine h.same (.of_eq (by simp)) (by simp) (by simp) (by simp) (by simp) (by simp) (by simp)
        fun d hd => ?_
      rw [State.passClaim_claims shape.rising mem] at hd
      obtain ⟨k, hk, eq⟩ := List.mem_filterMap.1 hd
      exact ⟨k, hk, (ClaimRecord.passedAt_some eq (shape.each k hk)).1.symm⟩
    exact passed.select (by simpa using budget)

theorem State.Coherent.expire (h : s.Coherent) (shape : s.ClaimsShape)
    (budget : s.engine.active.retryBudget ≤ 7) (target : Nat) : (s.expire target).Coherent := by
  rcases s.expire_cases target with ⟨-, eq⟩ | ⟨c, -, eq⟩
  · rw [eq]; exact h
  · rw [eq]
    refine State.Coherent.holderLeaves ?_ (shape.of_eq (by simp)) (by simpa using budget) target
    exact h.same (.of_eq (by simp)) (by simp) (by simp) (by simp) (by simp) (by simp) (by simp)
      fun d hd => ⟨d, by simpa using hd, rfl⟩

/-- Entries that lose subscribers keep what frames turn on. -/
theorem State.sameWire_of_map {f : StationEntry → StationEntry} (address : ∀ e, (f e).address = e.address)
    (wire : ∀ e, (f e).wire = e.wire) (directory : t.directory = s.directory.map f) : s.SameWire t := by
  intro a
  have found : t.station? a = (s.station? a).map f := by
    simp only [State.station?, tableFind, directory, List.find?_map]
    congr 2
    funext e
    simp [address]
  rw [found, Option.map_map]
  congr 1
  funext e
  exact wire e

theorem State.Coherent.tearDown (h : s.Coherent) (shape : s.ClaimsShape)
    (budget : s.engine.active.retryBudget ≤ 7) (p : Port) (cause : TeardownCause) :
    (s.tearDown p cause).Coherent := by
  have handed := (State.leaveClaims_all
    (fun u => u.Coherent ∧ u.engine.active = s.engine.active) p (fun u hu =>
      ⟨hu.1.same (.of_eq rfl) rfl rfl rfl rfl rfl rfl fun c hc => ⟨c, hc, rfl⟩, hu.2⟩)
    (fun u c shape found _ hu =>
      ⟨hu.1.holderLeaves shape (hu.2 ▸ budget) c.target,
        (u.holderLeaves_engineTakes c.target).active.trans hu.2⟩)
    _ (s.leaving p cause) (shape.of_eq (by simp)) ((s.leaving p cause).heldTargets_length p).symm
    ⟨h.leaving p cause, by simp [State.leaving]⟩).1.1
  have claims : ∀ c ∈ (s.tearDown p cause).claims,
      ∃ d ∈ (State.leaveClaims ((s.leaving p cause).heldTargets p).length p (s.leaving p cause)).claims,
        d.target = c.target := fun c hc => by
    have same : (s.tearDown p cause).claims = (s.left p cause).claims := by simp [State.tearDown_eq]
    rw [same] at hc
    obtain ⟨d, hd, rfl⟩ := List.mem_map.1 hc
    exact ⟨d, hd, rfl⟩
  refine handed.same ?_ (by simp [State.tearDown_eq, State.left]) ?_ ?_ (by simp [State.tearDown_eq, State.left])
    (by simp [State.tearDown_eq, State.left]) (by simp [State.tearDown_eq, State.left]) claims
  · refine State.sameWire_of_map (f := fun e =>
      { e with subscribers := e.subscribers.filter (fun x => decide (x.port ≠ p)) }) (fun _ => rfl)
      (fun _ => rfl) ?_
    rw [State.tearDown_directory]
    simp [State.leaving]
  · rw [State.tearDown_eq]
    unfold State.dropRequester
    split <;> simp [State.left]
  · rw [State.tearDown_eq]
    unfold State.dropRequester
    split <;> simp [State.left]

/-! ### Directory commands -/

/-- A broadcast's transaction names address 0 (R46, R81). -/
theorem State.Coherent.broadcast_station (h : s.Coherent) (hx : x ∈ s.transaction)
    (main : x.main = .broadcast) : x.station = 0 := by
  rcases h.course with rest | ⟨y, underway⟩
  · rw [rest.transaction] at hx
    cases hx
  · obtain rfl : y = x := Option.some.inj (underway.transaction.symm.trans hx)
    cases source : y.source with
    | visit =>
      rcases (underway.serves.visit source).1 with eq | eq <;> rw [main] at eq <;> cases eq
    | request i =>
      obtain ⟨-, named⟩ := underway.serves.request i source
      obtain ⟨r, hr, eq⟩ := Option.map_eq_some_iff.1 named
      simp only [Prod.mk.injEq] at eq
      have kind : r.kind = .broadcast := (RequestKind.main_eq_broadcast _).1 (eq.2.trans main)
      obtain ⟨-, -, station, -⟩ := (h.orderly.fit.ok i).1 r hr
      rw [← eq.1]
      simpa [kind, RequestKind.allowsStation] using station

/-- The station of the transaction in progress is not one that has no entry. -/
theorem State.Coherent.station_ne (h : s.Coherent) {a : Nat} (range : 1 ≤ a) (absent : s.station? a = none)
    (hx : x ∈ s.transaction) : x.station ≠ a := by
  by_cases main : x.main = .broadcast
  · rw [h.broadcast_station hx main]
    omega
  · rintro rfl
    have := h.station x hx main
    rw [absent] at this
    cases this

/-- R3: an entry for a new address. -/
theorem State.Coherent.enroll (h : s.Coherent) (directory : s.DirectoryOk) {a : Nat} (poll : Bool)
    (range : 1 ≤ a) (absent : s.station? a = none) : (s.putStation (.enrolled a poll)).Coherent := by
  have self : (s.putStation (.enrolled a poll)).station? a = some (.enrolled a poll) :=
    tableFind_put_self StationEntry.address (.enrolled a poll) directory.2.1
  have others : ∀ b, b ≠ a → (s.putStation (.enrolled a poll)).station? b = s.station? b :=
    fun b ne => tableFind_put_ne ne s.directory
  have isSome : ∀ b, (s.station? b).isSome = true →
      ((s.putStation (.enrolled a poll)).station? b).isSome = true := fun b hb => by
    by_cases eq : b = a
    · rw [eq, self]; rfl
    · rwa [others b eq]
  refine h.steady
    { fit := h.orderly.fit.of_eq (by simp) (by simp)
      synchronised := fun b e found => by
        by_cases eq : b = a
        · rw [eq, self] at found
          cases found
          exact ⟨fun _ => rfl, nofun, nofun⟩
        · exact h.orderly.synchronised b e (others b eq ▸ found)
      targets := fun c hc named => isSome _ (h.orderly.targets c (by simpa using hc) named)
      requests := fun i r hr kind => isSome _ (h.orderly.requests i r hr kind) }
    (.of_eq h (by simp) (by simp) (by simp) (by simp) (by simp)) fun x hx => ?_
  rw [others _ (h.station_ne range absent hx)]

/-- R6: an entry that nothing names goes. -/
theorem State.Coherent.dismiss (h : s.Coherent) (directory : s.DirectoryOk) {e : StationEntry}
    (found : s.station? e.address = some e) (unused : s.inUse e.address = false)
    (dropped : t.directory = tableDrop StationEntry.address e.address s.directory)
    (transaction : t.transaction = s.transaction) (scheduler : t.scheduler = s.scheduler)
    (engine : t.engine = s.engine) (slots : t.slots = s.slots) (lists : t.lists = s.lists)
    (claims : t.claims = s.claims) : t.Coherent := by
  have range := (directory.entry found).1.1
  have others : ∀ b, b ≠ e.address → t.station? b = s.station? b := fun b ne => by
    simp only [State.station?, dropped]
    exact tableFind_drop_ne ne s.directory
  have gone : t.station? e.address = none := by
    simp only [State.station?, dropped]
    exact tableFind_drop_self StationEntry.address e.address s.directory
  simp only [State.inUse, Bool.or_eq_false_iff] at unused
  obtain ⟨⟨noSlot, noClaim⟩, noTransaction⟩ := unused
  refine h.steady
    { fit := h.orderly.fit.of_eq slots lists
      synchronised := fun b d hd => by
        by_cases eq : b = e.address
        · rw [eq, gone] at hd
          cases hd
        · exact h.orderly.synchronised b d (others b eq ▸ hd)
      targets := fun c hc named => by
        rw [claims] at hc
        have ne : c.target ≠ e.address := by
          intro eq
          have := (State.claim?_none s e.address).1 (by simpa using noClaim) c hc
          exact this eq
        rw [others _ ne]
        exact h.orderly.targets c hc named
      requests := fun i r hr kind => by
        rw [State.slot_congr slots] at hr
        have ne : r.station ≠ e.address := by
          intro eq
          have inUse : s.slot i ≠ .free := by rintro free; rw [free] at hr; cases hr
          have := List.any_eq_false.1 noSlot _ (State.slot_mem inUse)
          simp [Slot.targets, hr, kind, eq] at this
        rw [others _ ne]
        exact h.orderly.requests i r hr kind }
    (.of_eq h transaction (by rw [scheduler]) (by rw [scheduler]) engine slots) fun x hx => ?_
  have ne : x.station ≠ e.address := by
    rw [hx] at noTransaction
    simpa using noTransaction
  rw [others _ ne]

/-- An entry takes another's place with the same state and bits. -/
theorem State.sameWire_putStation (directory : s.DirectoryOk) {e e' : StationEntry}
    (found : s.station? e.address = some e) (address : e'.address = e.address) (wire : e'.wire = e.wire) :
    s.SameWire (s.putStation e') := by
  intro a
  by_cases eq : a = e.address
  · have self : (s.putStation e').station? e'.address = some e' :=
      tableFind_put_self StationEntry.address e' directory.2.1
    rw [eq, found, ← address, self, Option.map_some, Option.map_some, wire]
  · have other : (s.putStation e').station? a = s.station? a :=
      tableFind_put_ne (by rw [address]; exact eq) s.directory
    rw [other]

theorem State.Coherent.putStation (h : s.Coherent) (directory : s.DirectoryOk) {e e' : StationEntry}
    (found : s.station? e.address = some e) (address : e'.address = e.address) (wire : e'.wire = e.wire) :
    (s.putStation e').Coherent :=
  h.same (State.sameWire_putStation directory found address wire) (by simp) (by simp) (by simp) (by simp)
    (by simp) (by simp) fun c hc => ⟨c, by simpa using hc, rfl⟩

theorem State.Coherent.selectIf (h : s.Coherent) (budget : s.engine.active.retryBudget ≤ 7) (b : Bool) :
    (s.selectIf b).Coherent := by
  cases b with
  | false => exact h
  | true => exact h.select budget

/-! ### Request commands -/

/-- R48: a request fills a FREE slot. -/
theorem State.Coherent.fillSlot (h : s.Coherent) {i : Nat} {r : Request} (ok : (Slot.pending p r).Ok)
    (fresh : s.tagged? p r.tag = none) (quota : s.slotsOwned p < 12) (free : s.freeSlot? = some i)
    (enrolled : r.kind ≠ .broadcast → (s.station? r.station).isSome = true) :
    (s.fillSlot p i r).Coherent := by
  obtain ⟨inside, empty⟩ := State.freeSlot?_some free
  have slot : ∀ j, (s.fillSlot p i r).slot j = if j = i then .pending p r else s.slot j :=
    State.setSlot_slot inside _
  refine h.steady
    { fit := h.orderly.fit.fillSlot ok fresh quota free
      synchronised := h.orderly.synchronised
      targets := h.orderly.targets
      requests := fun j r' hr' kind => by
        rw [slot] at hr'
        split at hr'
        · cases hr'
          exact enrolled kind
        · exact h.orderly.requests j r' hr' kind }
    ⟨rfl, rfl, h.line.1, h.line.2, .inl rfl, rfl, fun j => ?_⟩ fun _ _ => rfl
  rw [slot]
  split
  next eq => rw [eq, empty]; rfl
  next => rfl

/-- R54: a request on the line is marked. -/
theorem State.Coherent.cancelActive (h : s.Coherent) {i : Nat} {q : Port} {r : Request}
    (slot : s.slot i = .active q r) :
    (s.writeSlot i (fun r => { r with cancelRequested := true })).Coherent := by
  have ok : ((s.slot i).onLine fun r => { r with cancelRequested := true }).Ok := by
    have before := h.orderly.fit.ok i
    rw [slot] at before ⊢
    exact ⟨fun r' hr' => by cases hr'; exact before.1 r rfl, before.2⟩
  refine h.steady (h.orderly.keeps (.of_eq (by simp)) (h.orderly.fit.writeSlot (fun _ => rfl) ok)
    (fun c hc => ⟨c, by simpa using hc, rfl⟩) fun j r hr => ?_)
    ⟨by simp, by simp, by simpa using h.line.1, by simpa using h.line.2, .inl (by simp), by simp,
      fun j => ?_⟩ fun _ _ => State.SameWire.of_eq (by simp) _
  · exact State.writeSlot_requests (f := fun r => { r with cancelRequested := true })
      (fun _ => ⟨rfl, rfl⟩) hr
  · rw [State.writeSlot_slot]
    split
    next eq => rw [eq, slot]; rfl
    next => rfl

/-! ### Line commands -/

theorem State.Coherent.cutTransaction_busy (h : s.Coherent) : s.cutTransaction.scheduler.busy = .none := by
  unfold State.cutTransaction
  split
  next none =>
    rcases h.course with rest | ⟨x, underway⟩
    · exact rest.busy
    · rw [underway.transaction] at none
      cases none
  next => split <;> rfl

/-- The line state and the Scheduler's other fields change, the transaction in progress with neither. -/
theorem State.Coherent.schedule (h : s.Coherent) (directory : t.directory = s.directory)
    (claims : t.claims = s.claims) (slots : t.slots = s.slots) (lists : t.lists = s.lists)
    (transaction : t.transaction = s.transaction) (engine : t.engine = s.engine)
    (busy : t.scheduler.busy = s.scheduler.busy)
    (stopped : t.scheduler.line = .stopped → s.scheduler.busy = .none)
    (draining : t.scheduler.line = .draining → s.scheduler.busy ≠ .none) : t.Coherent :=
  h.steady (h.orderly.offers directory slots lists claims)
    ⟨transaction, busy, busy ▸ stopped, busy ▸ draining, .inl (by rw [engine]), by rw [engine],
      fun i => by rw [State.slot_congr slots]⟩ fun _ _ => State.SameWire.of_eq directory _

/-- The engine goes on within its exchange, or is configured. -/
theorem State.Coherent.withEngine (h : s.Coherent) {e : Engine}
    (phase : e.phase = s.engine.phase ∨ (s.engine.phase.inExchange = true ∧ e.phase.inExchange = true))
    (exchange : e.exchange = s.engine.exchange) : (s.withEngine e).Coherent :=
  h.steady (h.orderly.offers rfl rfl rfl rfl) ⟨rfl, rfl, h.line.1, h.line.2, phase, exchange, fun _ => rfl⟩
    fun _ _ => rfl

/-! ### Acts and happenings -/

theorem Engine.Ok.budget {e : Engine} (h : e.Ok) :
    e.active.retryBudget ≤ 7 ∧ 2 ≤ e.active.offlineThreshold := by
  have range := h.lasting.2.1
  simp [LineConfig.inRanges, inRange] at range
  omega

theorem Act.coherent (act : Act c p s t) (h : s.Coherent) (directory : s.DirectoryOk) (claims : s.ClaimsOk)
    (engine : s.engine.Ok) : t.Coherent := by
  have budget := engine.budget.1
  have shape := ((State.claimsOk_iff s).1 claims).1
  cases act with
  | nothing => exact h
  | attach | nextEvent =>
    exact h.schedule (by simp) (by simp) (by simp) (by simp) (by simp) (by simp) (by simp)
      (by simpa using h.line.1) (by simpa using h.line.2)
  | detach => exact h.tearDown shape budget p .detach
  | enroll a poll range absent => exact (h.enroll directory poll range.1 absent).selectIf (by simpa using budget) poll
  | dismiss e found unused =>
    exact h.dismiss directory found unused rfl (by simp) (by simp) (by simp) (by simp) (by simp) (by simp)
  | setStation e poll found =>
    exact State.Coherent.selectIf
      (h.putStation (e' := { e with pollEnabled := poll }) directory found rfl rfl)
      (by simpa using budget) poll
  | subscribe e found => exact h.putStation directory found rfl rfl
  | unsubscribe e found => exact h.putStation directory found rfl rfl
  | grant k d _ _ _ enrolled =>
    refine h.steady
      { fit := h.orderly.fit.of_eq (by simp) (by simp)
        synchronised := fun a e found => h.orderly.synchronised a e (by simpa [State.station?] using found)
        targets := fun b hb named => ?_
        requests := fun i r hr kind => ?_ }
      (.of_eq h (by simp) (by simp) (by simp) (by simp) (by simp)) fun _ _ => State.SameWire.of_eq (by simp) _
    · rw [(State.SameWire.of_eq (s := s) (by simp)).isSome]
      rcases mem_tablePut (by simpa [State.putClaim] using hb) with rfl | hb
      · exact enrolled named
      · exact h.orderly.targets b hb named
    · rw [(State.SameWire.of_eq (s := s) (by simp)).isSome]
      exact h.orderly.requests i r (by rwa [State.slot_congr (s := s) (by simp)] at hr) kind
  | wait k d _ _ found =>
    refine h.same (.of_eq (by simp)) (by simp) (by simp) (by simp) (by simp) (by simp) (by simp)
      fun b hb => ?_
    rcases mem_tablePut (by simpa [State.putClaim] using hb) with rfl | hb
    · exact ⟨k, (State.claim?_some found).1, rfl⟩
    · exact ⟨b, hb, rfl⟩
  | renew k d _ found =>
    rw [State.renewClaim_eq]
    refine h.same (.of_eq rfl) rfl rfl rfl rfl rfl rfl fun b hb => ?_
    rcases mem_tablePut hb with rfl | hb
    · exact ⟨k, (State.claim?_some found).1, rfl⟩
    · exact ⟨b, hb, rfl⟩
  | release k =>
    refine State.Coherent.holderLeaves (s := s.onQueue p (·.release 1)) ?_ (shape.of_eq rfl) budget _
    exact h.schedule rfl rfl rfl rfl rfl rfl rfl h.line.1 h.line.2
  | submit i r ok _ fresh enrolled quota _ free =>
    exact (h.fillSlot ok fresh quota free enrolled).select (by simpa using budget)
  | cancelPending i q r slot owner =>
    subst owner
    exact h.endPending (d := s.scheduler) slot rfl rfl _
  | cancelActive i q r slot => exact h.cancelActive slot
  | start =>
    refine State.Coherent.select (h.schedule (by simp) (by simp) (by simp) (by simp) (by simp) (by simp)
      (by simp) ?_ ?_) (by simpa using budget) <;> simp
  | halt line idle =>
    exact h.schedule (by simp) (by simp) (by simp) (by simp) (by simp) (by simp) (by simp)
      (fun _ => idle) (by simp)
  | drain line busy => exact h.schedule rfl rfl rfl rfl rfl rfl rfl nofun (fun _ => busy)
  | cut =>
    refine h.cut ?_ ?_ ?_ ?_ ?_ ?_ ?_ ?_
    · simp
    · simpa using h.cutTransaction_busy
    · simpa using s.cutTransaction_transaction
    all_goals simp
  | cutStopped line =>
    refine h.cut ?_ h.cutTransaction_busy s.cutTransaction_transaction rfl rfl (by simp) (by simp) (by simp)
    simp [line]
  | sweepOff => exact h.schedule rfl rfl rfl rfl rfl rfl rfl h.line.1 h.line.2
  | sweepOn m =>
    refine State.Coherent.select (h.schedule rfl rfl rfl rfl rfl rfl ?_ ?_ ?_) budget
    all_goals cases m
    any_goals rfl
    any_goals exact h.line.1
    all_goals exact h.line.2
  | configure | stage => exact h.withEngine (.inl rfl) rfl

end

end Sys2Proof.Machine

/-! Every happening keeps the course of the transaction, the tick in progress and the reset state; with
the groups kept on their own, a sound state stays sound. -/

namespace Sys2Proof.Machine

section
variable {c : Instr} {p : Port} {s t : State}

/-! ### The course of the transaction -/

theorem State.Coherent.takeEnd (h : s.Coherent) (shape : s.ClaimsShape)
    (budget : s.engine.active.retryBudget ≤ 7) (x : TickEnd) : (s.takeEnd x).Coherent := by
  cases x with
  | expiry target => exact h.expire shape budget target
  | lapse p => exact h.tearDown shape budget p .lapse

theorem State.takeEnd_engineTakes (s : State) (x : TickEnd) : s.engine.Takes (s.takeEnd x).engine := by
  cases x with
  | expiry target => exact s.expire_engineTakes target
  | lapse p => exact s.tearDown_engineTakes p .lapse

theorem State.Coherent.countDown (h : s.Coherent) : s.countDown.Coherent := by
  refine h.same (.of_eq rfl) rfl rfl rfl rfl rfl rfl fun c hc => ?_
  obtain ⟨d, hd, rfl⟩ := List.mem_map.1 hc
  refine ⟨d, hd, ?_⟩
  split <;> rfl

theorem State.Coherent.tick (h : s.Coherent) (shape : s.ClaimsShape)
    (budget : s.engine.active.retryBudget ≤ 7) (fuel : Nat) :
    (State.finishTick fuel s.countDown).Coherent :=
  (State.finishTick_induct
    (fun u => u.Coherent ∧ u.ClaimsShape ∧ u.engine.active = s.engine.active)
    (fun _ ⟨coherent, shape, active⟩ =>
      ⟨coherent.schedule rfl rfl rfl rfl rfl rfl rfl coherent.line.1 coherent.line.2, shape.of_eq rfl,
        active⟩)
    (fun u x ⟨coherent, shape, active⟩ =>
      ⟨coherent.takeEnd shape (active ▸ budget) x, shape.takeEnd x,
        (u.takeEnd_engineTakes x).active.trans active⟩)
    fuel s.countDown ⟨h.countDown, shape.countDown, rfl⟩).1

theorem State.Coherent.gapEnd (h : s.Coherent) (engine : s.engine.Ok) (gap : s.engine.phase = .gap) :
    (s.withEngine s.engine.enterIdle).resumeTransaction.select.Coherent := by
  refine (h.resumeTransaction gap).select ?_
  have takes := State.resumeTransaction_engineTakes (s := s.withEngine s.engine.enterIdle) rfl
  rw [Engine.Takes.active takes]
  exact (Engine.enterIdle_ok engine gap).budget.1

theorem Happening.coherent (happening : Happening c s t) (h : s.Coherent) (directory : s.DirectoryOk)
    (claims : s.ClaimsOk) (engine : s.engine.Ok) : t.Coherent := by
  have shape := ((State.claimsOk_iff s).1 claims).1
  cases happening with
  | nothing => exact h
  | packet p code body u r command receives act =>
    have heard : (s.heard p).Coherent := h.schedule rfl rfl rfl rfl rfl rfl rfl h.line.1 h.line.2
    have done : u.Coherent := act.coherent heard directory claims engine
    exact done.schedule rfl rfl rfl rfl rfl rfl rfl done.line.1 done.line.2
  | window | fragment | resetEnds => exact h.schedule rfl rfl rfl rfl rfl rfl rfl h.line.1 h.line.2
  | tick => exact h.tick shape engine.budget.1 _
  | expiry k =>
    refine State.Coherent.expire ?_ (shape.of_eq (by simp)) (by simpa using engine.budget.1) k.target
    exact h.schedule (by simp) (by simp) (by simp) (by simp) (by simp) (by simp) (by simp)
      (by simpa using h.line.1) (by simpa using h.line.2)
  | lapse p =>
    refine State.Coherent.tearDown ?_ (shape.of_eq (by simp)) (by simpa using engine.budget.1) p _
    exact h.schedule (by simp) (by simp) (by simp) (by simp) (by simp) (by simp) (by simp)
      (by simpa using h.line.1) (by simpa using h.line.2)
  | reset =>
    have fresh : State.reset.Coherent := .of_sound (by decide) (by decide) (by decide) (by decide)
      (by decide) (by decide)
    exact fresh.schedule rfl rfl rfl rfl rfl rfl rfl fresh.line.1 fresh.line.2
  | engine e high goes => exact h.withEngine goes.phase goes.exchange
  | ends e result ends => exact h.endExchange directory engine.budget.2 ends
  | gapEnd command gap => exact h.gapEnd engine gap

/-! ### The tick in progress (R23) -/

/-- What the tick in progress leaves out, each once. -/
abbrev Ticked.Ok (k : Ticked) : Prop :=
  k.claims.Nodup ∧ (∀ t ∈ k.claims, t ≤ 126) ∧ k.ports.Nodup

theorem State.reachClaim_ok (h : s.ticked.Ok) {target : Nat} (range : target ≤ 126) :
    (s.reachClaim target).ticked.Ok := by
  unfold State.reachClaim
  split
  next => exact h
  next new => exact ⟨List.nodup_cons.2 ⟨new, h.1⟩, List.forall_mem_cons.2 ⟨range, h.2.1⟩, h.2.2⟩

theorem State.reachPort_ok (h : s.ticked.Ok) (p : Port) : (s.reachPort p).ticked.Ok := by
  unfold State.reachPort
  split
  next => exact h
  next new => exact ⟨h.1, h.2.1, List.nodup_cons.2 ⟨new, h.2.2⟩⟩

theorem State.claimSet_ok (h : s.ticked.Ok) {target : Nat} (range : target ≤ 126) :
    (s.claimSet target).ticked.Ok := by
  unfold State.claimSet
  split
  · exact State.reachClaim_ok h range
  · exact h

theorem State.timerSet_ok (h : s.ticked.Ok) (p : Port) : (s.timerSet p).ticked.Ok := by
  unfold State.timerSet
  split
  · exact State.reachPort_ok h p
  · exact h

theorem State.heard_ok (h : s.ticked.Ok) (p : Port) : (s.heard p).ticked.Ok := by
  have noted : s.timerNoted p = (s.timerSet p).ticked := by rw [State.timerSet_eq]
  simp only [State.heard, noted]
  split
  · exact State.timerSet_ok h p
  · exact h

theorem State.renewClaim_ok (h : s.ticked.Ok) {k : ClaimRecord} (range : k.target ≤ 126) (d : Nat) :
    (s.renewClaim k d).ticked.Ok := by
  unfold State.renewClaim
  dsimp only
  split
  · exact State.reachClaim_ok (s := s.putClaim _) h range
  · split
    · split
      · exact State.reachClaim_ok (s := (s.putClaim _).withPicks _) h range
      · exact h
    · exact h

/-- A claim handed on counts from the next tick; one freed needs no note (R23, R33). -/
theorem State.passClaim_ticked (s : State) (k : ClaimRecord) :
    (s.passClaim k).ticked = if k.waiters = [] then s.ticked else (s.claimSet k.target).ticked := by
  unfold State.passClaim
  split
  next none => simp [none]
  next w rest waiters => 
    simp only [State.convert_frame, State.claimSet_eq, waiters, List.cons_ne_nil, if_false]
    rfl

theorem State.holderLeaves_ok (h : s.ticked.Ok) (shape : s.ClaimsShape) (target : Nat) :
    (s.holderLeaves target).ticked.Ok := by
  unfold State.holderLeaves
  split
  next => exact h
  next k found =>
    simp only [State.select_frame, State.passClaim_ticked]
    split
    · exact h
    · exact State.claimSet_ok h (shape.each k (State.claim?_some found).1).1

theorem State.expire_ok (h : s.ticked.Ok) (shape : s.ClaimsShape) (target : Nat) :
    (s.expire target).ticked.Ok := by
  rcases s.expire_cases target with ⟨-, eq⟩ | ⟨k, -, eq⟩
  · rw [eq]; exact h
  · rw [eq]
    exact State.holderLeaves_ok (by simpa using h) (shape.of_eq (by simp)) target

theorem State.tearDown_ok (h : s.ticked.Ok) (shape : s.ClaimsShape) (p : Port) (cause : TeardownCause) :
    (s.tearDown p cause).ticked.Ok := by
  have handed := (State.leaveClaims_all (fun u => u.ticked.Ok) p (fun _ hu => hu)
    (fun u k shape _ _ hu => State.holderLeaves_ok hu shape k.target)
    _ (s.leaving p cause) (shape.of_eq (by simp)) ((s.leaving p cause).heldTargets_length p).symm
    (by simpa [State.leaving] using h)).1
  have same : (s.tearDown p cause).ticked =
      (State.leaveClaims ((s.leaving p cause).heldTargets p).length p (s.leaving p cause)).ticked := by
    simp [State.tearDown_eq, State.left]
  rw [same]
  exact handed

theorem Act.tickOk (act : Act c p s t) (h : s.ticked.Ok) (shape : s.ClaimsShape) : t.ticked.Ok := by
  cases act with
  | attach body lapse => exact State.timerSet_ok (s := s.onRecord p (·.attach lapse)) h p
  | detach => exact State.tearDown_ok h shape p .detach
  | grant k d range =>
    simp only [State.onQueue_frame]
    exact State.claimSet_ok (s := s.putClaim _) h range
  | renew k d _ found => exact State.renewClaim_ok h (shape.each k (State.claim?_some found).1).1 d
  | release k => exact State.holderLeaves_ok (s := s.onQueue p (·.release 1)) h (shape.of_eq rfl) _
  | _ => simpa using h

theorem Happening.tickOk (happening : Happening c s t) (h : s.ticked.Ok) (shape : s.ClaimsShape) :
    t.ticked.Ok := by
  cases happening with
  | packet p code body u r command receives act =>
    exact act.tickOk (State.heard_ok h p) (shape.of_eq rfl)
  | tick =>
    refine (State.finishTick_induct (fun u => u.ticked.Ok ∧ u.ClaimsShape) (fun u hu => ⟨hu.1, hu.2.of_eq rfl⟩)
      (fun u x hu => ⟨?_, hu.2.takeEnd x⟩) _ s.countDown
      ⟨⟨.nil, nofun, .nil⟩, shape.countDown⟩).1
    cases x with
    | expiry target => exact State.expire_ok hu.1 hu.2 target
    | lapse p => exact State.tearDown_ok hu.1 hu.2 p .lapse
  | expiry k found =>
    exact State.expire_ok (State.reachClaim_ok h (shape.each k (State.claim?_some found).1).1)
      (shape.of_eq (by simp)) _
  | lapse p => exact State.tearDown_ok (State.reachPort_ok h p) (shape.of_eq (by simp)) p _
  | reset => exact ⟨.nil, nofun, .nil⟩
  | _ => simpa using h

/-! ### Device reset (R166) -/

theorem Act.resetLow (act : Act c p s t) : t.resetLow = s.resetLow := by
  cases act <;> simp [State.renewClaim_eq, State.putClaim]

theorem State.takeEnd_resetLow (s : State) (x : TickEnd) : (s.takeEnd x).resetLow = s.resetLow := by
  cases x with
  | expiry target =>
    rcases s.expire_cases target with ⟨-, eq⟩ | ⟨k, -, eq⟩ <;> simp [State.takeEnd, eq]
  | lapse p => simp [State.takeEnd]

/-- While RESET_n is low the part stands in its reset state, so nothing happens but at the select lines
and by device reset itself. -/
theorem Happening.resetOk (happening : Happening c s t) (h : s.ResetOk) : t.ResetOk := by
  cases happening with
  | nothing => exact h
  | packet p code body u r command receives act =>
    intro low
    have low : s.resetLow = true := act.resetLow ▸ low
    rcases (h low).1 p (by simp) with closed | ignored
    · rw [receives] at closed
      cases closed
    · rw [receives] at ignored
      cases ignored
  | window p w command keeps =>
    intro low
    obtain ⟨windows, fresh⟩ := h low
    refine ⟨fun q hq => ?_, ?_⟩
    · by_cases eq : q = p
      · subst eq
        simpa [State.setWindow] using keeps low (windows q hq)
      · simpa [State.setWindow, PerPort.get_set_ne, eq] using windows q hq
    · rw [fresh]; rfl
  | fragment p bytes command receives =>
    intro low
    rcases (h low).1 p (by simp) with closed | ignored
    · rw [receives] at closed
      cases closed
    · rw [receives] at ignored
      cases ignored
  | tick command high =>
    intro low
    have same := State.finishTick_induct (fun u => u.resetLow = false) (fun _ hu => hu)
      (fun u x hu => (u.takeEnd_resetLow x).trans hu) s.countDown.tickEnds.length s.countDown high
    rw [same] at low
    cases low
  | expiry k found =>
    intro low
    have same := (s.reachClaim k.target).takeEnd_resetLow (.expiry k.target)
    have low : s.resetLow = true := by simpa using same.symm.trans low
    have mem := (State.claim?_some found).1
    rw [(h low).2] at mem
    cases mem
  | lapse p command attached =>
    intro low
    have low : s.resetLow = true := by simpa using low
    rw [(h low).2] at attached
    cases p <;> cases attached
  | reset => exact fun _ => ⟨fun p _ => by cases h : s.windows.get p <;> simp [h, Window.atReset], rfl⟩
  | resetEnds => exact nofun
  | engine e high goes =>
    intro low
    have idle : s.engine.phase = .idle := by rw [(h low).2]; rfl
    exact absurd low (by simp [high idle])
  | ends e result ends =>
    intro low
    have low : s.resetLow = true := by simpa using low
    have inExchange := ends.inExchange
    rw [(h low).2] at inExchange
    cases inExchange
  | gapEnd command gap =>
    intro low
    have low : s.resetLow = true := by simpa using low
    rw [(h low).2] at gap
    cases gap

/-! ### Soundness -/

theorem State.Coherent.sourceOnLine (h : s.Coherent) : s.SourceOnLine := by
  rw [State.sourceOnLine_iff]
  intro x hx
  rcases h.course with rest | ⟨y, underway⟩
  · rw [rest.transaction] at hx
    cases hx
  · obtain rfl : y = x := Option.some.inj (underway.transaction.symm.trans hx)
    exact fun i source => (underway.serves.request i source).1

theorem Happening.sound (happening : Happening c s t) (h : s.Sound) : t.Sound := by
  obtain ⟨directory, synchronised, claims, tick, records, attn, room, owners, slots, scheduler, record,
    phase, line, engine, inUse, buffers, reset⟩ := h
  have before := State.Coherent.of_sound synchronised slots record phase line inUse
  have shape := ((State.claimsOk_iff s).1 claims).1
  have accounts : s.AccountsOk :=
    ⟨claims, attn, room, owners, before.orderly.fit.listsOwn, before.sourceOnLine⟩
  have directory' := happening.directoryOk directory
  have claims' := happening.claimsOk claims
  have after := happening.coherent before directory claims engine
  obtain ⟨-, attn', room', owners', -⟩ :=
    (State.accountsOk_iff t).2 ⟨claims', happening.settled accounts, after.sourceOnLine⟩
  obtain ⟨synchronised', slots', record', phase', line', inUse'⟩ := after.sound directory'
  exact ⟨directory', synchronised', claims', happening.tickOk tick shape, happening.recordsOk records shape,
    attn', room', owners', slots', (happening.sweepOk ⟨directory, scheduler⟩).scheduler, record', phase',
    line', happening.engineMove.ok engine, inUse', happening.buffersOk ⟨directory, buffers⟩,
    happening.resetOk reset⟩

/-- The queue of commands is no part of soundness. -/
theorem State.Sound.withPending (h : s.Sound) (x : List Instr) : ({ s with pending := x } : State).Sound := by
  obtain ⟨directory, synchronised, claims, tick, records, attn, room, owners, slots, scheduler, record,
    phase, line, engine, inUse, buffers, reset⟩ := h
  refine ⟨directory, synchronised, claims, tick, records, attn, room, owners, slots, scheduler, record,
    phase, line, engine, inUse, buffers, fun low => ⟨(reset low).1, ?_⟩⟩
  exact congrArg (fun u : State => { u with pending := x }) (reset low).2

/-- Settles O57: each group is kept by every happening, the groups that speak of the transaction in
progress together as its course. -/
theorem stepsKeepSoundness : Obligations.StepsKeepSoundness := fun _ _ sound h =>
  step_keeps State.Sound (fun _ x h => h.withPending x) (fun _ _ _ sound h => (exec_happens h).sound sound) sound h

end

end Sys2Proof.Machine

/-! A tick of the timebase, and what the teardown of a port leaves in every block. -/

namespace Sys2Proof.Machine

section
variable {p : Port} {s t : State}

/-! ### The tick -/

theorem timebaseTick_eq (high : s.resetLow = false) :
    exec .timebaseTick s = .next (State.finishTick s.countDown.tickEnds.length s.countDown) := by
  simp [exec, execTimebaseTick, high]

/-- Where the counting down brings one thing to 0, that is the tick's one end. -/
theorem State.finishTick_one {x : TickEnd} (h : s.tickEnds = [x]) :
    State.finishTick s.tickEnds.length s = s.takeEnd x := by
  rw [h]
  simp [State.finishTick, h]

theorem State.tickEnds_eq (s : State) :
    s.tickEnds = (s.claims.filter (fun c => c.remaining == 0)).map (fun c => TickEnd.expiry c.target) ++
      (Port.all.filter s.lapses).map TickEnd.lapse := rfl

/-- No record stands at 0. -/
theorem State.noExpiry (h : ∀ c ∈ s.claims, c.remaining ≠ 0) :
    s.claims.filter (fun c => c.remaining == 0) = [] :=
  List.filter_eq_nil_iff.2 fun c hc => by simpa using h c hc

/-- The lapse timer stands at 0 on the one port, or on none. -/
theorem State.lapses_eq_false (h : s.isAttached p = true → (s.records.get p).timer ≠ some 0) :
    s.lapses p = false := by
  by_cases attached : s.isAttached p = true
  · simp [State.lapses, h attached]
  · simp [State.lapses, attached]

theorem State.noLapse (h : ∀ p, s.isAttached p = true → (s.records.get p).timer ≠ some 0) :
    Port.all.filter s.lapses = [] :=
  List.filter_eq_nil_iff.2 fun p _ => by simp [State.lapses_eq_false (h p)]

theorem State.oneLapse (attached : s.isAttached p = true) (timer : (s.records.get p).timer = some 0)
    (others : ∀ q, q ≠ p → s.isAttached q = true → (s.records.get q).timer ≠ some 0) :
    Port.all.filter s.lapses = [p] := by
  have lapses : ∀ q, s.lapses q = decide (q = p) := fun q => by
    by_cases eq : q = p
    · subst eq
      simp [State.lapses, attached, timer]
    · simp [eq, State.lapses_eq_false (others q eq)]
  rw [funext lapses]
  cases p <;> rfl

/-- The expiry of a record whose holder is attached (R32). -/
theorem State.expire_of_attached {c : ClaimRecord} (found : s.claim? c.target = some c)
    (attached : s.isAttached c.holder = true) :
    s.expire c.target = (s.converted c.holder (.claimExpired c.target)).holderLeaves c.target := by
  simp only [State.expire, found, State.convert_of_attached _ attached]

/-- Settles O10: the counting down is the whole of the tick but for what reaches 0; the tick goes on
until nothing stands there. -/
theorem tickCountsDown : Obligations.TickCountsDown := by
  refine ⟨?_, ?_⟩
  · rintro s high fall rfl counted eq
    obtain rfl : counted = s.countDown := eq
    rw [timebaseTick_eq high]
    refine ⟨fun noClaim noTimer => ?_, fun c expires found attached noTimer => ?_,
      fun p noClaim attached timer others => ?_⟩
    · rw [State.finishTick_none]
      rw [State.tickEnds_eq, State.noExpiry noClaim, State.noLapse noTimer]
      rfl
    · rw [State.finishTick_one (x := .expiry c.target), State.takeEnd,
        State.expire_of_attached found attached]
      rw [State.tickEnds_eq, State.noLapse noTimer, List.map_nil, List.append_nil]
      exact congrArg (List.map fun c : ClaimRecord => TickEnd.expiry c.target) expires
    · rw [State.finishTick_one (x := .lapse p)]
      · rfl
      · rw [State.tickEnds_eq, State.noExpiry noClaim, State.oneLapse attached timer others]
        rfl
  · intro s t high claims records step
    have shape := ((State.claimsOk_iff s).1 claims).1
    have after := (exec_happens step).recordsOk records shape
    rw [timebaseTick_eq high] at step
    cases step
    exact ⟨fun c hc => (((State.claimsOk_iff _).1 shape.tick).2 c hc),
      fun p n timer => ((after p (by simp)).2.2.2.2.2 n timer).1⟩

/-! ### The state in which a port that is torn down has handed on its claims -/

/-- A port that is torn down has handed on the claims it held (R164, step 3). -/
def State.handedOn (s : State) (p : Port) (cause : TeardownCause) : State :=
  State.leaveClaims ((s.leaving p cause).heldTargets p).length p (s.leaving p cause)

theorem State.left_eq (s : State) (p : Port) (cause : TeardownCause) :
    s.left p cause = (s.handedOn p cause).leaveWaits p := rfl

/-- What holds as a port leaves its claims, and what each hand-over keeps, holds once it has handed them
on. -/
theorem State.handedOn_induct (shape : s.ClaimsShape) (p : Port) (cause : TeardownCause) (P : State → Prop)
    (picks : ∀ u, P u → P (u.withPicks (u.picks + 1)))
    (leaves : ∀ u c, u.ClaimsShape → c ∈ u.claims → c.holder = p → P u → P ((u.passClaim c).select))
    (start : P (s.leaving p cause)) :
    P (s.handedOn p cause) ∧
      (s.handedOn p cause).claims = s.claims.filterMap (ClaimRecord.passedBy p) := by
  rw [← s.leaving_claims p cause]
  refine State.leaveClaims_all P p picks (fun u c hshape found holder hu => ?_) _ _
    (shape.of_eq (s.leaving_claims p cause)) ((s.leaving p cause).heldTargets_length p).symm start
  simp only [State.holderLeaves, found]
  exact leaves u c hshape (State.claim?_some found).1 holder hu

/-! ### The Request Table of a port that is torn down (R58) -/

/-- The port waits for nothing and owns no slot. -/
structure State.OwnsNothing (s : State) (p : Port) : Prop where
  list : s.lists.get p = []
  slots : ∀ x ∈ s.slots, x.owner? ≠ some p

theorem State.OwnsNothing.of_eq (h : s.OwnsNothing p) (lists : t.lists = s.lists) (slots : t.slots = s.slots) :
    t.OwnsNothing p := ⟨lists ▸ h.list, slots ▸ h.slots⟩

theorem State.OwnsNothing.setSlot (h : s.OwnsNothing p) {i : Nat} {x : Slot} (other : x.owner? ≠ some p) :
    (s.setSlot i x).OwnsNothing p :=
  ⟨h.list, fun y hy => by
    rcases List.mem_or_eq_of_mem_set hy with mem | rfl
    · exact h.slots y mem
    · exact other⟩

theorem State.OwnsNothing.takeChoice (h : s.OwnsNothing p) (q : Port) (i : Nat) :
    (s.takeChoice q i).OwnsNothing p := by
  refine ⟨?_, h.slots⟩
  simp only [State.takeChoice, State.unlist, State.withScheduler_lists, State.onList,
    State.withLists_lists, PerPort.get_set]
  split
  next eq => subst eq; simp [h.list]
  next => exact h.list

theorem State.OwnsNothing.endRequest (h : s.OwnsNothing p) (i : Nat) (status : CompletionStatus) :
    (s.endRequest i status).OwnsNothing p := by
  refine ⟨by simpa using h.list, fun x hx => ?_⟩
  rw [State.endRequest_slots] at hx
  rcases List.mem_or_eq_of_mem_set hx with mem | rfl
  · exact h.slots x mem
  · nofun

theorem Slot.onLine_owner? (y : Slot) (f : Request → Request) : (y.onLine f).owner? = y.owner? := by
  cases y <;> rfl

theorem State.OwnsNothing.slot (h : s.OwnsNothing p) (i : Nat) : (s.slot i).owner? ≠ some p := by
  by_cases free : s.slot i = .free
  · rw [free]; nofun
  · exact h.slots _ (State.slot_mem free)

theorem State.OwnsNothing.beginAttempt (h : s.OwnsNothing p) (x : Transaction) :
    (s.beginAttempt x).OwnsNothing p := by
  refine ⟨by simpa using h.list, ?_⟩
  rw [(s.beginAttempt_effect x).2.1]
  unfold State.countAttempt
  split
  next i _ =>
    refine (h.setSlot (i := i) ?_).slots
    rw [Slot.onLine_owner?]
    exact h.slot i
  next => exact h.slots

/-- A selection gives no slot to a port that waits for nothing. -/
theorem State.OwnsNothing.select (h : s.OwnsNothing p) : s.select.OwnsNothing p := by
  unfold State.select
  split
  · refine State.choose_cases (fun u => u.OwnsNothing p) (fun u => u.OwnsNothing p)
      (fun u q i _ r h _ _ _ => (h.takeChoice q i).endRequest i _) (fun u a credit h _ => ?_)
      (fun u q i _ r h candidate _ _ => ?_) (fun u h _ _ => h) _ _ (by simp)
      (h.of_eq (by simp) (by simp))
    · unfold State.beginVisit
      refine State.OwnsNothing.beginAttempt ?_ _
      exact State.OwnsNothing.of_eq h rfl rfl
    · have other : q ≠ p := by
        rintro rfl
        have := (State.candidate?_some candidate).1
        rw [h.list] at this
        cases this
      unfold State.beginRequest
      refine State.OwnsNothing.beginAttempt (s := State.withScheduler _ _) ?_ _
      have chosen := (h.takeChoice q i).setSlot (i := i) (x := .active q
        { r with retryBudget := some (r.retryBudget.getD (u.takeChoice q i).engine.active.retryBudget) })
        (by simpa [Slot.owner?] using other)
      exact chosen.of_eq rfl rfl
  · exact h

/-- The line state stays in a selection (R61 to R64 alone change it). -/
theorem State.select_line (s : State) : s.select.scheduler.line = s.scheduler.line := by
  unfold State.select
  split
  · refine State.choose_cases (fun u => u.scheduler.line = s.scheduler.line)
      (fun u => u.scheduler.line = s.scheduler.line) (fun u q i _ r h _ _ _ => by simpa using h)
      (fun u a credit h _ => ?_) (fun u q i _ r h _ _ _ => ?_) (fun u h _ _ => h) _ _ (by simp)
      s.sweepSearch_course.1
    · rw [State.beginVisit_scheduler]; exact h
    · rw [State.beginRequest_scheduler]; exact h
  · rfl

/-! ### What the tick in progress leaves out (R23) -/

/-- A record that the port hands on to a waiter. -/
def State.handsOn (s : State) (p : Port) (target : Nat) : Prop :=
  ∃ c ∈ s.claims, c.target = target ∧ c.holder = p ∧ c.waiters ≠ []

/-- The hand-over of one record, besides the notes: the others stay, and this one has left the port. -/
theorem State.handsOn_passClaim (shape : s.ClaimsShape) {c : ClaimRecord} (mem : c ∈ s.claims)
    (holder : c.holder = p) (target : Nat) :
    s.handsOn p target ↔
      (c.target = target ∧ c.waiters ≠ []) ∨ (s.passClaim c).handsOn p target := by
  unfold State.handsOn
  rw [State.passClaim_claims shape.rising mem]
  constructor
  · rintro ⟨d, hd, rfl, left, waiters⟩
    by_cases same : d.target = c.target
    · obtain rfl := shape.rising.eq_of_key hd mem same
      exact .inl ⟨rfl, waiters⟩
    · exact .inr ⟨d, List.mem_filterMap.2 ⟨d, hd, by simp [ClaimRecord.passedAt, same]⟩, rfl, left, waiters⟩
  · rintro (⟨rfl, waiters⟩ | ⟨d, hd, rfl, left, waiters⟩)
    · exact ⟨c, mem, rfl, holder, waiters⟩
    · obtain ⟨e, he, eq⟩ := List.mem_filterMap.1 hd
      unfold ClaimRecord.passedAt at eq
      split at eq
      next same =>
        rw [shape.rising.eq_of_key he mem same] at eq
        exact absurd (left.trans holder.symm) (ClaimRecord.passedOn_some eq (shape.each _ mem)).2.2.2.1
      next =>
        cases eq
        exact ⟨d, he, rfl, left, waiters⟩

/-- What the tick in progress leaves out as a port hands on its claims: those already noted and those
it hands on, where a tick is in progress (R23). -/
structure State.TickNoted (s u : State) (p : Port) : Prop where
  ports : u.ticked.ports = s.ticked.ports
  none : s.ticked = ⟨[], []⟩ → u.ticked = ⟨[], []⟩
  begun : s.ticked ≠ ⟨[], []⟩ → u.ticked ≠ ⟨[], []⟩
  claims : s.ticked ≠ ⟨[], []⟩ → ∀ target,
    target ∈ s.ticked.claims ∨ s.handsOn p target ↔ target ∈ u.ticked.claims ∨ u.handsOn p target

theorem State.TickNoted.of_eq {u v : State} (h : s.TickNoted u p) (ticked : v.ticked = u.ticked)
    (claims : v.claims = u.claims) : s.TickNoted v p := by
  refine ⟨ticked ▸ h.ports, ticked ▸ h.none, ticked ▸ h.begun, fun begun target => ?_⟩
  rw [h.claims begun, ticked]
  simp only [State.handsOn, claims]

theorem State.mem_claimNoted (begun : s.ticked ≠ ⟨[], []⟩) (a target : Nat) :
    target ∈ (s.claimNoted a).claims ↔ a = target ∨ target ∈ s.ticked.claims := by
  unfold State.claimNoted
  by_cases mem : a ∈ s.ticked.claims
  · simp only [mem, or_true, if_true]
    exact ⟨.inr, fun h => h.elim (· ▸ mem) id⟩
  · simp [begun, mem, eq_comm]

theorem State.TickNoted.passClaim {u : State} (h : s.TickNoted u p) (shape : u.ClaimsShape) {c : ClaimRecord}
    (mem : c ∈ u.claims) (holder : c.holder = p) : s.TickNoted (u.passClaim c) p := by
  have handed := State.handsOn_passClaim shape mem holder
  by_cases last : c.waiters = []
  · have same : (u.passClaim c).ticked = u.ticked := by rw [State.passClaim_ticked, if_pos last]
    refine ⟨same ▸ h.ports, same ▸ h.none, same ▸ h.begun, fun begun target => ?_⟩
    rw [h.claims begun, handed, same]
    simp [last]
  · have noted : (u.passClaim c).ticked = u.claimNoted c.target := by
      rw [State.passClaim_ticked, if_neg last, State.claimSet_eq]
    refine ⟨?_, fun none => ?_, fun begun => ?_, fun begun target => ?_⟩
    · rw [noted, ← h.ports]
      unfold State.claimNoted
      split <;> rfl
    · rw [noted, State.claimNoted, if_pos (.inl (h.none none)), h.none none]
    · rw [noted]
      unfold State.claimNoted
      split
      · exact h.begun begun
      · simp
    · rw [h.claims begun, handed, noted, State.mem_claimNoted (h.begun begun)]
      simp only [last, ne_eq, not_false_eq_true, and_true]
      tauto

/-! ### The report buffers of a port that is torn down (R133) -/

/-- A buffer after `n` of its references are dropped: free when none is left. -/
def ReportBuffer.dropTimes (n : Nat) (b : ReportBuffer) : Option ReportBuffer :=
  if n = 0 then some b else if b.refs ≤ n then none else some { b with refs := b.refs - n }

theorem ReportBuffer.drop_dropTimes (b : ReportBuffer) (n : Nat) :
    b.drop.bind (ReportBuffer.dropTimes n) = b.dropTimes (n + 1) := by
  unfold ReportBuffer.drop
  split
  next few =>
    have : b.refs ≤ n + 1 := by omega
    simp [ReportBuffer.dropTimes, this]
  next many =>
    by_cases zero : n = 0
    · simp [ReportBuffer.dropTimes, zero, many]
    · have same : b.refs - 1 ≤ n ↔ b.refs ≤ n + 1 := by omega
      simp [ReportBuffer.dropTimes, zero, same, Nat.sub_sub, Nat.add_comm 1 n]

theorem State.dropReference_getD (s : State) (x : Notice) (i : Nat) :
    (s.dropReference x).buffers.getD i none =
      if x.refersTo i then (s.buffers.getD i none).bind ReportBuffer.drop else s.buffers.getD i none := by
  cases x with
  | report r =>
    simp only [State.dropReference, State.setBuffer, State.withBuffers_buffers, Notice.refersTo_report,
      List.getD_eq_getElem?_getD, List.getElem?_set]
    by_cases h : r.buffer = i
    · subst h
      by_cases inside : r.buffer < s.buffers.length <;> simp [inside]
    · simp [h]
  | _ => simp [State.dropReference, Notice.refersTo]

theorem State.foldl_dropReference_getD (xs : List Notice) (s : State) (i : Nat) :
    (xs.foldl State.dropReference s).buffers.getD i none =
      (s.buffers.getD i none).bind (ReportBuffer.dropTimes (xs.countP (Notice.refersTo i))) := by
  induction xs generalizing s with
  | nil =>
    rw [List.foldl_nil]
    cases s.buffers.getD i none <;> rfl
  | cons x xs ih =>
    rw [List.foldl_cons, ih, State.dropReference_getD, List.countP_cons]
    split
    · rw [Option.bind_assoc]
      congr 1
      funext b
      exact b.drop_dropTimes _
    · rfl

theorem State.tearDown_buffers_getD (s : State) (p : Port) (cause : TeardownCause) (i : Nat) :
    (s.tearDown p cause).buffers.getD i none =
      (s.buffers.getD i none).bind
        (ReportBuffer.dropTimes ((s.queues.get p).notices.countP (Notice.refersTo i))) := by
  have queue : (s.left p cause).queues.get p = s.queues.get p := by
    rcases (s.left_feeds p cause).queues p with eq | ⟨attached, -⟩
    · rw [eq, State.leaving_queues]
    · rw [State.leaving_isAttached_self] at attached
      cases attached
  have buffers : (s.left p cause).buffers = s.buffers := by simp [State.left, State.leaving]
  have flushed : (s.tearDown p cause).buffers =
      ((s.queues.get p).notices.foldl State.dropReference ((s.left p cause).dropSubscriptions p)).buffers := by
    simp [State.tearDown_eq, State.flushQueue, queue]
  rw [flushed, State.foldl_dropReference_getD, State.dropSubscriptions, State.withDirectory_buffers, buffers]

/-! ### The notices of the hand-overs (R33, R141) -/

/-- The notice for port `q` of the hand-over of a claim of port `p`. -/
def ClaimRecord.grantTo? (p q : Port) (c : ClaimRecord) : Option Notice :=
  match c.waiters with
  | w :: _ => if c.holder = p ∧ w.port = q then some (.claimGranted c.target w.duration) else none
  | [] => none

/-- The queue with several units converted. -/
def EventQueue.converts (k : EventQueue) (new : List Notice) : EventQueue :=
  { k with
    notices := k.notices ++ new
    reserved := k.reserved - new.length
    attn := k.attn || !new.isEmpty }

theorem EventQueue.converts_converts (k : EventQueue) (a b : List Notice) :
    (k.converts a).converts b = k.converts (a ++ b) := by
  simp only [EventQueue.converts, List.append_assoc, List.length_append, EventQueue.mk.injEq, true_and]
  refine ⟨by omega, ?_⟩
  cases a <;> cases b <;> simp

theorem State.passClaim_queue {c : ClaimRecord} (holder : c.holder = p)
    (attached : ∀ w ∈ c.waiters, s.isAttached w.port = true) (q : Port) :
    (s.passClaim c).queues.get q = (s.queues.get q).converts (c.grantTo? p q).toList := by
  unfold State.passClaim ClaimRecord.grantTo?
  cases waiters : c.waiters with
  | nil => simp [EventQueue.converts]
  | cons w rest =>
    have on : State.isAttached ((s.putClaim
        { c with holder := w.port, remaining := w.duration, waiters := rest }).claimSet c.target) w.port =
        true := by
      rw [State.isAttached_congr (t := s) (by simp [State.putClaim])]
      exact attached w (by simp [waiters])
    simp only [State.convert_of_attached _ on, State.converted, PerPort.get_set, holder, true_and]
    by_cases eq : q = w.port
    · simp [eq, EventQueue.converts, State.putClaim]
    · simp [eq, Ne.symm eq, EventQueue.converts, State.putClaim]

/-- The hand-over of one claim takes its notice from those to come. -/
theorem State.grants_passClaim (shape : s.ClaimsShape) {c : ClaimRecord} (mem : c ∈ s.claims)
    (holder : c.holder = p) (q : Port) :
    (s.claims.filterMap (ClaimRecord.grantTo? p q)).Perm
      ((c.grantTo? p q).toList ++ (s.passClaim c).claims.filterMap (ClaimRecord.grantTo? p q)) := by
  have gone : ∀ x ∈ s.claims, (x.passedAt c.target).bind (ClaimRecord.grantTo? p q) =
      if x.target = c.target then none else x.grantTo? p q := by
    intro x hx
    by_cases same : x.target = c.target
    · obtain rfl := shape.rising.eq_of_key hx mem same
      simp only [ClaimRecord.passedAt, if_true]
      cases passed : x.passedOn with
      | none => rfl
      | some d =>
        have := (ClaimRecord.passedOn_some passed (shape.each x hx)).2.2.2.1
        simp only [Option.bind_some, ClaimRecord.grantTo?]
        split
        · simp [← holder, this]
        · rfl
    · simp [ClaimRecord.passedAt, same]
  rw [State.passClaim_claims shape.rising mem, List.filterMap_filterMap, List.filterMap_congr gone]
  have rising := shape.rising
  obtain ⟨l, r, split⟩ := List.append_of_mem mem
  rw [split] at rising ⊢
  rw [Rising, List.pairwise_append, List.pairwise_cons] at rising
  obtain ⟨-, ⟨after, -⟩, before⟩ := rising
  have kept : ∀ m : List ClaimRecord, (∀ x ∈ m, x.target ≠ c.target) →
      m.filterMap (fun x => if x.target = c.target then none else x.grantTo? p q) =
        m.filterMap (ClaimRecord.grantTo? p q) :=
    fun m hm => List.filterMap_congr fun x hx => if_neg (hm x hx)
  rw [List.filterMap_append, List.filterMap_append, List.filterMap_cons, List.filterMap_cons, if_pos rfl,
    kept l fun x hx => Nat.ne_of_lt (before x hx c (by simp)),
    kept r fun x hx => Nat.ne_of_gt (after x hx)]
  cases c.grantTo? p q with
  | none => exact .refl _
  | some x => exact List.perm_middle

/-- The hand-overs so far of a teardown, as the queue of another port sees them. -/
structure State.Granted (s u : State) (p q : Port) : Prop where
  held : ∀ c ∈ u.claims, c.holder = p → c ∈ s.claims
  attached : ∀ r, r ≠ p → u.isAttached r = s.isAttached r
  queue : ∃ new, u.queues.get q = (s.queues.get q).converts new ∧
    (s.claims.filterMap (ClaimRecord.grantTo? p q)).Perm
      (new ++ u.claims.filterMap (ClaimRecord.grantTo? p q))

theorem State.Granted.passClaim {u : State} {q : Port} (h : s.Granted u p q) (owners : s.OwnersAttached)
    (shape : u.ClaimsShape) {c : ClaimRecord} (mem : c ∈ u.claims) (holder : c.holder = p) :
    s.Granted (u.passClaim c) p q := by
  have waiting : ∀ w ∈ c.waiters, u.isAttached w.port = true := fun w hw => by
    obtain ⟨-, -, -, -, others, -⟩ := shape.each c mem
    rw [h.attached w.port (holder ▸ others w hw)]
    exact (owners.1 c (h.held c mem holder)).2 w hw
  obtain ⟨new, queue, grants⟩ := h.queue
  refine ⟨fun d hd left => ?_, fun r ne => ?_, new ++ (c.grantTo? p q).toList, ?_, ?_⟩
  · rw [State.passClaim_claims shape.rising mem] at hd
    obtain ⟨e, he, eq⟩ := List.mem_filterMap.1 hd
    unfold ClaimRecord.passedAt at eq
    split at eq
    next same =>
      rw [shape.rising.eq_of_key he mem same] at eq
      exact absurd (left.trans holder.symm) (ClaimRecord.passedOn_some eq (shape.each _ mem)).2.2.2.1
    next =>
      cases eq
      exact h.held d he left
  · rw [State.isAttached_congr (s := u.passClaim c) (t := u) (by simp)]
    exact h.attached r ne
  · rw [State.passClaim_queue holder waiting, queue, EventQueue.converts_converts]
  · rw [List.append_assoc]
    exact grants.trans ((State.grants_passClaim shape mem holder q).append_left new)

/-! ### What the teardown leaves -/

theorem State.tearDown_scheduler (s : State) (p : Port) (cause : TeardownCause) :
    (s.tearDown p cause).scheduler =
      { (s.handedOn p cause).scheduler with
        requester :=
          if (s.handedOn p cause).scheduler.requester = some p then none
          else (s.handedOn p cause).scheduler.requester } := by
  have same : (((s.left p cause).dropSubscriptions p).flushQueue p).scheduler =
      (s.handedOn p cause).scheduler := by simp [State.left_eq]
  rw [State.tearDown_eq, State.dropRequester, same]
  split
  next => rfl
  next => exact same

/-- The port holds no claim once it has handed them on (R37). -/
theorem State.handedOn_holder (shape : s.ClaimsShape) (p : Port) (cause : TeardownCause) :
    ∀ c ∈ (s.handedOn p cause).claims, c.holder ≠ p := by
  intro c mem holder
  rw [(State.handedOn_induct shape p cause (fun _ => True) (fun _ _ => trivial)
    (fun _ _ _ _ _ _ => trivial) trivial).2] at mem
  obtain ⟨d, hd, eq⟩ := List.mem_filterMap.1 mem
  unfold ClaimRecord.passedBy at eq
  split at eq
  next was => exact (ClaimRecord.passedOn_some eq (shape.each d hd)).2.2.2.1 (holder.trans was.symm)
  next was =>
    cases eq
    exact was holder

theorem State.tearDown_requests (shape : s.ClaimsShape) (p : Port) (cause : TeardownCause) :
    (s.tearDown p cause).OwnsNothing p ∧
      (s.tearDown p cause).scheduler.line = s.scheduler.line := by
  have leaving : (s.leaving p cause).OwnsNothing p := by
    refine ⟨by simp [State.leaving_lists], fun x hx => ?_⟩
    rw [State.leaving_slots] at hx
    obtain ⟨y, -, rfl⟩ := List.mem_map.1 hx
    exact fun owner => (Slot.tearDown_owner.1 owner).2 rfl
  have handed := (State.handedOn_induct shape p cause
    (fun u => u.OwnsNothing p ∧ u.scheduler.line = s.scheduler.line)
    (fun _ h => ⟨h.1.of_eq rfl rfl, h.2⟩)
    (fun u c _ _ _ h => ⟨(h.1.of_eq (t := u.passClaim c) (by simp) (by simp)).select, by
      rw [State.select_line]
      simpa using h.2⟩)
    ⟨leaving, by simp [State.leaving]⟩).1
  refine ⟨handed.1.of_eq ?_ ?_, ?_⟩
  · simp [State.tearDown_eq, State.left_eq]
  · simp [State.tearDown_eq, State.left_eq]
  · rw [← handed.2, State.tearDown_scheduler]

theorem State.tearDown_requester (s : State) (p : Port) (cause : TeardownCause) :
    (s.tearDown p cause).scheduler.requester ≠ some p := by
  simp only [State.tearDown_eq, State.dropRequester]
  split
  · nofun
  next other => exact other

theorem State.tearDown_ticked (shape : s.ClaimsShape) (p : Port) (cause : TeardownCause) :
    s.TickNoted (s.handedOn p cause) p ∧ (s.tearDown p cause).ticked = (s.handedOn p cause).ticked ∧
      ∀ target, ¬ (s.handedOn p cause).handsOn p target := by
  have handed := (State.handedOn_induct shape p cause (fun u => s.TickNoted u p)
    (fun _ h => h.of_eq rfl rfl)
    (fun u c shape mem holder h => (h.passClaim shape mem holder).of_eq (by simp) (by simp))
    ⟨by simp [State.leaving], by simp [State.leaving], by simp [State.leaving], fun _ target => by
      simp [State.handsOn, State.leaving]⟩).1
  refine ⟨handed, by simp [State.tearDown_eq, State.left_eq], fun target => ?_⟩
  rintro ⟨c, mem, -, holder, -⟩
  exact State.handedOn_holder shape p cause c mem holder

/-- Where the line is not free, the hand-overs bring no selection (R66). -/
theorem State.tearDown_line (shape : s.ClaimsShape) (busy : s.lineFree = false) (p : Port)
    (cause : TeardownCause) :
    (s.tearDown p cause).slots = s.slots.map (Slot.tearDown p) ∧
      (s.tearDown p cause).transaction = s.transaction ∧ (s.tearDown p cause).engine = s.engine ∧
      (s.tearDown p cause).scheduler =
        { s.scheduler with
          requester := if s.scheduler.requester = some p then none else s.scheduler.requester } ∧
      (s.OwnersAttached → ∀ q, s.Granted (s.handedOn p cause) p q) := by
  have noSelection : ∀ u : State, u.engine = s.engine → u.scheduler = s.scheduler → u.select = u :=
    fun u engine scheduler => State.select_of_not_free (by
      rw [← busy]
      simp only [State.lineFree, engine, scheduler])
  have handed := (State.handedOn_induct shape p cause
    (fun u => u.slots = s.slots.map (Slot.tearDown p) ∧ u.transaction = s.transaction ∧
      u.engine = s.engine ∧ u.scheduler = s.scheduler)
    (fun _ h => h)
    (fun u c _ _ _ h => by
      rw [noSelection _ (by simpa using h.2.2.1) (by simpa using h.2.2.2)]
      simpa using h)
    ⟨s.leaving_slots p cause, by simp [State.leaving], by simp [State.leaving], by simp [State.leaving]⟩).1
  obtain ⟨slots, transaction, engine, scheduler⟩ := handed
  refine ⟨?_, ?_, ?_, ?_, fun owners q => ?_⟩
  · rw [← slots]; simp [State.tearDown_eq, State.left_eq]
  · rw [← transaction]; simp [State.tearDown_eq, State.left_eq]
  · rw [← engine]; simp [State.tearDown_eq, State.left_eq]
  · rw [← scheduler, State.tearDown_scheduler]
  · refine (State.handedOn_induct shape p cause
      (fun u => s.Granted u p q ∧ u.engine = s.engine ∧ u.scheduler = s.scheduler) (fun _ h => ?_)
      (fun u c shape mem holder h => ?_) ?_).1.1
    · exact ⟨⟨h.1.held, h.1.attached, h.1.queue⟩, h.2⟩
    · rw [noSelection _ (by simpa using h.2.1) (by simpa using h.2.2)]
      exact ⟨h.1.passClaim owners shape mem holder, by simpa using h.2⟩
    · refine ⟨⟨fun c hc _ => by simpa using hc, fun r ne => s.leaving_isAttached_ne ne cause, [], ?_, ?_⟩,
        by simp [State.leaving], by simp [State.leaving]⟩
      · simp [EventQueue.converts]
      · simp

/-- Settles O12: the teardown's parts in the order of R164, the hand-overs of its claims as an invariant
of each. -/
theorem teardownDropsEverything : Obligations.TeardownDropsEverything := by
  intro p cause s claims
  have shape := ((State.claimsOk_iff s).1 claims).1
  have table := State.tearDown_claims shape p cause
  obtain ⟨requests, line⟩ := State.tearDown_requests shape p cause
  obtain ⟨noted, ticked, handed⟩ := State.tearDown_ticked shape p cause
  refine ⟨by simp [State.tearDown_records], s.tearDown_queue_self p cause, requests.list, requests.slots,
    fun c hc => ?_, table.trans ?_, fun h => ticked.trans (noted.none h), fun begun target => ?_,
    ticked ▸ noted.ports, ?_, s.tearDown_requester p cause, fun q ne => s.tearDown_get_ne ne cause,
    by simp, line, ?_, fun busy => ?_⟩
  · rw [table] at hc
    obtain ⟨d, hd, eq⟩ := List.mem_filterMap.1 hc
    exact (ClaimRecord.tornFrom_some eq (shape.each d hd)).2.2.2
  · refine List.filterMap_congr fun c _ => ?_
    obtain ⟨target, holder, remaining, _ | ⟨w, rest⟩⟩ := c <;> rfl
  · have noted := noted.claims begun target
    rw [or_iff_left (handed target)] at noted
    rw [ticked, ← noted]
    rfl
  · rw [State.tearDown_directory]
  · rintro i n rfl
    rw [State.tearDown_buffers_getD]
    cases s.buffers.getD i none <;> rfl
  · obtain ⟨slots, transaction, engine, scheduler, granted⟩ := State.tearDown_line shape busy p cause
    refine ⟨slots.trans (List.map_congr_left fun x _ => ?_), transaction, engine, scheduler,
      fun owners q ne => ?_⟩
    · cases x <;> rfl
    · obtain ⟨new, queue, grants⟩ := (granted owners q).queue
      have noneLeft : (s.handedOn p cause).claims.filterMap (ClaimRecord.grantTo? p q) = [] := by
        refine List.filterMap_eq_nil_iff.2 fun c hc => ?_
        have other := State.handedOn_holder shape p cause c hc
        unfold ClaimRecord.grantTo?
        split
        · simp [other]
        · rfl
      rw [noneLeft, List.append_nil] at grants
      refine ⟨new, grants.symm, ?_⟩
      rw [State.tearDown_queue_ne s ne, State.left_eq, State.leaveWaits, State.withClaims_queues]
      exact queue

end

end Sys2Proof.Machine

/-! What a selection chooses, and the frame that the transaction it hands over begins with. -/

namespace Sys2Proof.Machine

section
variable {s t : State}

/-! ### The sweep (R73) -/

/-- The station of lowest address above `k` that is poll-enabled. -/
def State.IsLowest (s : State) (k a : Nat) : Prop :=
  k < a ∧ (∃ e ∈ s.directory, e.address = a ∧ e.pollEnabled = true) ∧
    ∀ e ∈ s.directory, e.pollEnabled = true → k < e.address → a ≤ e.address

theorem State.IsLowest.unique {k a b : Nat} (ha : s.IsLowest k a) (hb : s.IsLowest k b) : a = b := by
  obtain ⟨above, ⟨e, mem, rfl, poll⟩, least⟩ := ha
  obtain ⟨above', ⟨e', mem', rfl, poll'⟩, least'⟩ := hb
  exact Nat.le_antisymm (least e' mem' poll' above') (least' e mem poll above)

theorem State.stationAbove?_none (s : State) (k : Nat) :
    s.stationAbove? k = none ↔ ∀ e ∈ s.directory, e.pollEnabled = true → e.address ≤ k := by
  simp [State.stationAbove?]

theorem State.isLowest_of_stationAbove? (rising : Rising StationEntry.address s.directory) {k a : Nat}
    (h : s.stationAbove? k = some a) : s.IsLowest k a := by
  unfold State.stationAbove? at h
  obtain ⟨e, found, rfl⟩ := Option.map_eq_some_iff.1 h
  obtain ⟨chosen, before, after, split, passed⟩ := List.find?_eq_some_iff_append.1 found
  simp only [Bool.and_eq_true, decide_eq_true_eq] at chosen
  refine ⟨chosen.2, ⟨e, List.mem_of_find?_eq_some found, rfl, chosen.1⟩, fun d mem poll above => ?_⟩
  rw [split] at mem rising
  obtain ⟨-, later, -⟩ := List.pairwise_append.1 rising
  rcases List.mem_append.1 mem with early | late
  · have := passed d early
    simp [poll] at this
    omega
  · rcases List.mem_cons.1 late with rfl | late
    · exact le_rfl
    · exact Nat.le_of_lt ((List.pairwise_cons.1 later).1 d late)

theorem State.stationAbove?_eq_some (rising : Rising StationEntry.address s.directory) (k a : Nat) :
    s.stationAbove? k = some a ↔ s.IsLowest k a := by
  refine ⟨State.isLowest_of_stationAbove? rising, fun lowest => ?_⟩
  cases found : s.stationAbove? k with
  | none =>
    obtain ⟨above, ⟨e, mem, rfl, poll⟩, -⟩ := lowest
    have := (s.stationAbove?_none k).1 found e mem poll
    omega
  | some b => rw [(State.isLowest_of_stationAbove? rising found).unique lowest]

theorem State.sweepFinds?_congr (mode : t.scheduler.mode = s.scheduler.mode)
    (cursor : t.scheduler.cursor = s.scheduler.cursor) (directory : t.directory = s.directory) :
    t.sweepFinds? = s.sweepFinds? := by
  simp only [State.sweepFinds?, State.stationAbove?, mode, cursor, directory]

theorem State.endSweep_sweepFinds? (s : State) : s.endSweep.sweepFinds? = none := by
  simp [State.sweepFinds?, State.endSweep_scheduler]

/-! ### Candidates (R67, R68) -/

theorem State.claimAllows_iff (s : State) (p : Port) (r : Request) :
    s.claimAllows p r = true ↔
      ∀ c, s.claim? (if r.kind = RequestKind.broadcast then 0 else r.station) = some c → c.holder = p := by
  simp only [State.claimAllows, Request.claimTarget]
  cases s.claim? (if r.kind = RequestKind.broadcast then 0 else r.station) <;> simp

theorem State.eligible_iff (s : State) (i : Nat) :
    s.eligible i = true ↔ ∃ p r, s.slot i = .pending p r ∧ s.claimAllows p r = true := by
  refine ⟨State.eligible_eq, ?_⟩
  rintro ⟨p, r, slot, allows⟩
  simp [State.eligible, slot, allows]

theorem State.isUrgent_iff (s : State) (i : Nat) :
    s.isUrgent i = true ↔ ∃ r, (s.slot i).request? = some r ∧ r.urgent = true := by
  simp [State.isUrgent, Option.any_eq_true]

/-! ### What a selection gives -/

theorem State.lineFree_iff (s : State) :
    s.lineFree = true ↔ s.scheduler.line = .running ∧ s.engine.phase = .idle ∧ s.scheduler.busy = .none := by
  simp [State.lineFree]

/-- What a selection leaves as it goes on. -/
structure State.Choosing (s u : State) : Prop where
  free : u.lineFree = true
  transaction : u.transaction = s.transaction
  engine : u.engine = s.engine
  finds : s.sweepFinds? = none → u.sweepFinds? = none

theorem State.Choosing.sweepSearch (free : s.lineFree = true) : s.Choosing s.sweepSearch := by
  refine ⟨?_, by simp, by simp, fun none => ?_⟩
  · rw [← free]
    exact State.lineFree_congr s.sweepSearch_course.1 (by simp) s.sweepSearch_course.2
  · unfold State.sweepSearch
    split
    · exact s.endSweep_sweepFinds?
    · exact none

theorem State.Choosing.goesOn {u : State} (h : s.Choosing u) (p : Port) (i : Nat) (status : CompletionStatus) :
    s.Choosing ((u.takeChoice p i).endRequest i status) := by
  refine ⟨?_, ?_, ?_, fun none => ?_⟩
  · rw [← h.free]
    exact State.lineFree_congr (by simp) (by simp) (by simp)
  · simpa using h.transaction
  · simpa using h.engine
  · rw [← h.finds none]
    exact State.sweepFinds?_congr (by simp) (by simp) (by simp)

theorem State.select_gives (free : s.lineFree = true) :
    (s.select.scheduler.busy ≠ .none ∧ s.select.transaction.isSome = true ∧
      s.select.engine.phase = .sending ∧ s.select.engine.de = true) ∨
    (s.select.lineFree = true ∧ s.select.transaction = s.transaction ∧ s.select.engine = s.engine ∧
      (∀ q, s.select.candidate? q = none) ∧ s.select.sweepFinds? = none) := by
  rw [State.select_of_free free (Nat.lt_succ_self _)]
  refine State.choose_cases (fun u => s.Choosing u)
    (fun u => (u.scheduler.busy ≠ .none ∧ u.transaction.isSome = true ∧
      u.engine.phase = .sending ∧ u.engine.de = true) ∨
    (u.lineFree = true ∧ u.transaction = s.transaction ∧ u.engine = s.engine ∧
      (∀ q, u.candidate? q = none) ∧ u.sweepFinds? = none))
    (fun u p i _ r h _ _ _ => h.goesOn p i _) (fun u a credit h _ => .inl ?_)
    (fun u p i q r h _ _ _ => .inl ?_) (fun u h none noCandidate => .inr ?_) _ _ (by simp)
    (.sweepSearch free)
  · obtain ⟨busy, -, transaction, phase, de⟩ := u.beginVisit_effect a credit
    exact ⟨by simp [busy], transaction, phase, de⟩
  · obtain ⟨busy, -, transaction, phase, de⟩ := (u.takeChoice p i).beginRequest_effect p i r
    exact ⟨by simp [busy], transaction, phase, de⟩
  · exact ⟨h.free, h.transaction, h.engine, noCandidate, h.finds none⟩

/-- Settles O38: the choosing's one case split, and what a find in a rising table finds. -/
theorem selectionChoosesOrFindsNothing : Obligations.SelectionChoosesOrFindsNothing := by
  refine ⟨fun s free => State.select_gives free, fun s i => ⟨?_, s.isUrgent_iff i⟩, fun s p => ⟨fun i => ?_, ?_⟩,
    ?_⟩
  · rw [State.eligible_iff]
    simp only [State.claimAllows_iff]
    rfl
  · simp only [State.candidate?, List.find?_eq_some_iff_append]
    constructor
    · rintro ⟨eligible, front, rest, split, passed⟩
      exact ⟨front, rest, split, eligible, fun j hj => by simpa using passed j hj⟩
    · rintro ⟨front, rest, split, eligible, passed⟩
      exact ⟨eligible, front, rest, split, fun j hj => by simp [passed j hj]⟩
  · simp [State.candidate?]
  · rintro s directory lowest rfl
    have above := State.stationAbove?_eq_some directory.2.1
    refine ⟨fun off => by simp [State.sweepFinds?, off], fun once a => ?_, fun continuous a => ?_⟩
    · simp only [State.sweepFinds?, once]
      exact above _ a
    · simp only [State.sweepFinds?, continuous]
      rw [← s.stationAbove?_none]
      cases found : s.stationAbove? s.scheduler.cursor with
      | none =>
        have noLowest : ¬ s.IsLowest s.scheduler.cursor a := fun h => by
          rw [(above _ a).2 h] at found
          cases found
        change s.stationAbove? 0 = some a ↔ s.IsLowest s.scheduler.cursor a ∨ none = none ∧ s.IsLowest 0 a
        rw [or_iff_right noLowest, above]
        exact (and_iff_right rfl).symm
      | some b =>
        change some b = some a ↔ s.IsLowest s.scheduler.cursor a ∨ some b = none ∧ s.IsLowest 0 a
        rw [← found, above, found]
        exact (or_iff_left nofun).symm

/-! ### The order of a selection (R69 to R74) -/

/-- No sweep search ends here: a selection on a free line is the choosing. -/
theorem State.select_eq_choose (free : s.lineFree = true)
    (going : s.scheduler.mode = .once → s.sweepFinds? ≠ none) {n : Nat} (hn : s.waiting < n) :
    s.select = State.choose n s.sweepFinds? s := by
  have same : s.sweepSearch = s := if_neg fun h => going h.1 h.2
  rw [State.select_of_free free hn, same]

theorem State.choose_visit {n a : Nat} (due : s.engine.active.pollShare ≤ s.scheduler.credit) :
    State.choose (n + 1) (some a) s = s.beginVisit a 0 := by
  have first : (some a).filter (fun _ => decide (s.engine.active.pollShare ≤ s.scheduler.credit)) = some a := by
    simp [Option.filter, due]
  simp only [State.choose, first]

/-- No poll visit comes first: none is found, or the credit does not call for one. -/
theorem State.filter_not_due {found : Option Nat}
    (wait : found = none ∨ s.scheduler.credit < s.engine.active.pollShare) :
    found.filter (fun _ => decide (s.engine.active.pollShare ≤ s.scheduler.credit)) = none := by
  rcases wait with rfl | low
  · rfl
  · cases found with
    | none => rfl
    | some a => simp [low]

theorem State.choose_request {n i : Nat} {p q : Port} {r : Request} {found : Option Nat}
    (wait : found = none ∨ s.scheduler.credit < s.engine.active.pollShare)
    (choice : s.requestChoice? = some (p, i)) (slot : s.slot i = .pending q r) :
    State.choose (n + 1) found s =
      if s.endsAtSelection r then
        State.choose n found ((s.takeChoice p i).endRequest i .stationOffline)
      else (s.takeChoice p i).beginRequest p i r := by
  simp only [State.choose, State.filter_not_due wait, choice, slot]

theorem State.choose_idle {n a : Nat} (none : s.requestChoice? = none) :
    (s.engine.active.pollShare ≤ s.scheduler.credit ∧
      State.choose (n + 1) (some a) s = s.beginVisit a 0) ∨
      State.choose (n + 1) (some a) s = s.beginVisit a s.scheduler.credit := by
  by_cases due : s.engine.active.pollShare ≤ s.scheduler.credit
  · exact .inl ⟨due, State.choose_visit due⟩
  · refine .inr ?_
    simp only [State.choose, State.filter_not_due (.inr (Nat.lt_of_not_le due)), none]

/-- The first of a list for which something is found. -/
theorem findSome?_append_cons {α β : Type} {f : α → Option β} {before after : List α} {x : α} {y : β}
    (passed : ∀ z ∈ before, f z = none) (here : f x = some y) :
    (before ++ x :: after).findSome? f = some y := by
  rw [List.findSome?_append, List.findSome?_eq_none_iff.2 passed, List.findSome?_cons, here]
  rfl

theorem State.requestChoice?_eq {p : Port} {before after : List Port} {i : Nat} {r : Request}
    (rotation : s.scheduler.pointer.rotation = before ++ p :: after) (candidate : s.candidate? p = some i)
    (slot : s.slot i = .pending p r)
    (first : (r.urgent = true ∧ ∀ q ∈ before, ∀ j, s.candidate? q = some j → s.isUrgent j = false) ∨
      ((∀ q j, s.candidate? q = some j → s.isUrgent j = false) ∧ ∀ q ∈ before, s.candidate? q = none)) :
    s.requestChoice? = some (p, i) := by
  have notUrgent : ∀ q, (∀ j, s.candidate? q = some j → s.isUrgent j = false) →
      ((s.candidate? q).bind fun j => if s.isUrgent j then some (q, j) else none) = none := fun q h => by
    cases hq : s.candidate? q with
    | none => rfl
    | some j => simp [h j hq]
  rcases first with ⟨urgent, passed⟩ | ⟨noUrgent, passed⟩
  · have isUrgent : s.isUrgent i = true := by simp [State.isUrgent, slot, Slot.request?, urgent]
    have choice : s.urgentChoice? = some (p, i) := by
      rw [State.urgentChoice?, rotation]
      exact findSome?_append_cons (fun q hq => notUrgent q (passed q hq)) (by simp [candidate, isUrgent])
    rw [State.requestChoice?, choice]
    rfl
  · have none : s.urgentChoice? = none :=
      List.findSome?_eq_none_iff.2 fun q _ => notUrgent q (noUrgent q)
    have choice : s.anyChoice? = some (p, i) := by
      rw [State.anyChoice?, rotation]
      exact findSome?_append_cons (fun q hq => by rw [passed q hq]; rfl) (by rw [candidate]; rfl)
    rw [State.requestChoice?, none, choice]
    rfl

theorem State.endsAtSelection_iff (s : State) (r : Request) :
    s.endsAtSelection r = true ↔ (r.kind = RequestKind.send ∨ r.kind = RequestKind.fetch) ∧
      ∃ e, s.station? r.station = some e ∧ e.state = .offline := by
  unfold State.endsAtSelection State.isOffline
  cases r.kind <;> cases s.station? r.station <;> simp

/-- An unreserved notice offered to a queue, in the terms of the statements (R142, R144). -/
theorem EventQueue.offer_eq (k : EventQueue) (x : Notice) :
    k.offer x =
      if k.notices.length + k.reserved < 16 then { k with notices := k.notices ++ [x], attn := true }
      else { k with missed := min 255 (k.missed + 1) } := by
  rcases k.offer_cases x with ⟨room, eq⟩ | ⟨full, eq⟩
  · exact eq.trans (if_pos room).symm
  · exact eq.trans (if_neg (Nat.not_lt.2 full)).symm

/-- A notice offered to one port: an attached one's queue admits it or counts it as missed (R142, R144). -/
theorem State.offer_eq (s : State) (p : Port) (x : Notice) :
    s.offer p x =
      { s with
        queues :=
          if s.isAttached p = false then s.queues
          else
            s.queues.set p
              (if (s.queues.get p).notices.length + (s.queues.get p).reserved < 16 then
                { s.queues.get p with notices := (s.queues.get p).notices ++ [x], attn := true }
              else { s.queues.get p with missed := min 255 ((s.queues.get p).missed + 1) }) } := by
  unfold State.offer
  simp only [← EventQueue.offer_eq]
  cases s.isAttached p <;> rfl

/-- The end of a ONCE sweep in the terms of the statements (R74). -/
theorem State.endSweep_eq (s : State) :
    s.endSweep =
      { s with
        scheduler := { s.scheduler with mode := .off, requester := none }
        queues :=
          match s.scheduler.requester with
          | none => s.queues
          | some p =>
            if s.isAttached p = false then s.queues
            else
              s.queues.set p
                (if (s.queues.get p).notices.length + (s.queues.get p).reserved < 16 then
                  { s.queues.get p with
                    notices := (s.queues.get p).notices ++ [.sweepDone s.scheduler.visits], attn := true }
                else { s.queues.get p with missed := min 255 ((s.queues.get p).missed + 1) }) } := by
  unfold State.endSweep
  cases s.scheduler.requester with
  | none => rfl
  | some p =>
    simp only [State.offer_eq]
    rfl

/-- Settles O39: each branch of the choosing, with the choice that the rotation makes. -/
theorem selectionFollowsItsOrder : Obligations.SelectionFollowsItsOrder := by
  refine ⟨fun s free going => ⟨fun a found due => ?_, fun wait => ⟨?_, ?_⟩⟩, fun s free once none => ?_⟩
  · rw [State.select_eq_choose free going (Nat.lt_succ_self _), found, State.choose_visit due]
  · intro before p after i r rotation candidate slot first
    have choice := State.requestChoice?_eq rotation candidate slot first
    have fewer := State.waiting_takeChoice (State.candidate?_some candidate).1 .stationOffline
    rw [State.select_eq_choose free going (Nat.lt_succ_self _), State.choose_request wait choice slot]
    simp only [State.endsAtSelection_iff]
    refine ite_congr rfl (fun _ => ?_) (fun _ => rfl)
    have same : ((s.takeChoice p i).endRequest i .stationOffline).sweepFinds? = s.sweepFinds? :=
      State.sweepFinds?_congr (by simp) (by simp) (by simp)
    rw [← same]
    symm
    refine State.select_eq_choose ?_ (fun once => ?_) fewer
    · rw [← free]
      exact State.lineFree_congr (by simp) (by simp) (by simp)
    · exact same ▸ going (by simpa using once)
  · intro noCandidate a found
    have low : s.scheduler.credit < s.engine.active.pollShare := by simpa [found] using wait
    rw [State.select_eq_choose free going (Nat.lt_succ_self _), found]
    rcases State.choose_idle (n := s.waiting) (a := a) ((State.requestChoice?_none s).2 noCandidate) with
      ⟨due, -⟩ | eq
    · omega
    · exact eq
  · refine Eq.trans ?_ (congrArg State.select s.endSweep_eq)
    have off : s.endSweep.scheduler.mode = .off := by rw [s.endSweep_scheduler]
    have search : s.sweepSearch = s.endSweep := if_pos ⟨once, none⟩
    have endFree : s.endSweep.lineFree = true := by rw [← search]; exact (State.Choosing.sweepSearch free).free
    rw [State.select_eq_choose endFree (by simp [off]) (n := s.waiting + 1)
        (by rw [← search, State.sweepSearch_waiting]; exact Nat.lt_succ_self _), s.endSweep_sweepFinds?,
      State.select_of_free free (Nat.lt_succ_self _), search, none]

/-! ### Claims hold back first attempts (R35, R67) -/

/-- Settles O41: a PENDING slot stays or is freed until the choosing begins its request, which its
claims then allow. -/
theorem claimsHoldBackFirstAttempts : Obligations.ClaimsHoldBackFirstAttempts := by
  intro s i p q r r' pending active
  rw [← s.claimAllows_iff]
  change s.slot i = .pending p r at pending
  change s.select.slot i = .active q r' at active
  by_cases free : s.lineFree = true
  · rw [State.select_of_free free (Nat.lt_succ_self _)] at active
    revert active
    refine State.choose_cases
      (fun u => u.claims = s.claims ∧ (u.slot i = .pending p r ∨ u.slot i = .free))
      (fun u => u.slot i = .active q r' → s.claimAllows p r = true)
      (fun u p' j q' d h _ _ _ => ?_) (fun u a credit h _ active => ?_)
      (fun u p' j q' d h candidate slot _ active => ?_) (fun u h _ _ active => ?_) _ _ (by simp)
      ⟨by simp, .inl (by rw [State.slot_congr (s := s) (by simp), pending])⟩
    · refine ⟨by simpa using h.1, ?_⟩
      rw [State.endRequest_slot]
      split
      · exact .inr rfl
      · exact h.2
    · rw [State.slot_congr (u.beginVisit_effect a credit).2.1] at active
      rcases h.2 with h | h <;> rw [h] at active <;> cases active
    · obtain ⟨-, ⟨x, slots⟩, -⟩ := (u.takeChoice p' j).beginRequest_effect p' j d
      by_cases same : j = i
      · subst same
        obtain ⟨p'', d', slot', allows⟩ := State.eligible_eq (State.candidate?_some candidate).2
        rcases h.2 with eq | eq
        · rw [slot'] at eq
          cases eq
          simpa only [State.claimAllows, State.claim?, h.1] using allows
        · rw [slot'] at eq
          cases eq
      · have kept : ((u.takeChoice p' j).beginRequest p' j d).slot i = u.slot i := by
          simp only [State.slot, slots, List.getD_eq_getElem?_getD]
          rw [List.getElem?_set_ne same]
          rfl
        rw [kept] at active
        rcases h.2 with h | h <;> rw [h] at active <;> cases active
    · rcases h.2 with h | h <;> rw [h] at active <;> cases active
  · rw [State.select_of_not_free (by simpa using free), pending] at active
    cases active

/-! ### What a selection hands over (R50, R71, R73, R81 to R83) -/

/-- The phase and the frame with which an attempt begins: a join probe where the station is not
synchronised, and otherwise the main frame (R82, R83). -/
def State.opening (s : State) (x : Transaction) : Phase × Frame :=
  if s.needsProbe x then (.joinProbe, probeFrame x.station) else (.mainFrame, s.mainFrame x)

/-- An attempt that begins, in the terms of the statements (R82, R107). -/
theorem State.beginAttempt_eq (s : State) (x : Transaction) :
    s.beginAttempt x =
      (s.countAttempt x.source).sendsFrame x ((s.countAttempt x.source).opening x).1
        ((s.countAttempt x.source).opening x).2 := by
  simp only [State.beginAttempt, State.opening]
  split <;> rfl

/-- The opening of an attempt for a request. -/
theorem State.opening_request {x : Transaction} {e : StationEntry} (found : s.station? x.station = some e) :
    s.opening x =
      match x.main with
      | .send =>
        if e.synchronised then
          (.mainFrame,
            { address := x.station, kind := .send, sBit := e.sendBit, payload := s.sourcePayload x.source })
        else (.joinProbe, probeFrame x.station)
      | .fetch =>
        if e.synchronised then
          (.mainFrame,
            { address := x.station, kind := .fetch, sBit := false, payload := s.sourcePayload x.source })
        else (.joinProbe, probeFrame x.station)
      | .poll =>
        if e.synchronised then
          (.mainFrame, { address := x.station, kind := .poll, sBit := e.reportBit, payload := [] })
        else (.joinProbe, probeFrame x.station)
      | .probe => (.mainFrame, probeFrame x.station)
      | .broadcast =>
        (.mainFrame, { address := 0, kind := .send, sBit := false, payload := s.sourcePayload x.source }) := by
  unfold State.opening State.needsProbe State.mainFrame
  cases x.main <;> cases synchronised : e.synchronised <;> simp [found, synchronised]

theorem State.opening_probe {x : Transaction} (main : x.main = .probe) :
    s.opening x = (.mainFrame, probeFrame x.station) := by
  simp [State.opening, State.needsProbe, State.mainFrame, main]

theorem State.opening_broadcast {x : Transaction} (main : x.main = .broadcast) :
    s.opening x =
      (.mainFrame,
        { address := 0, kind := .send, sBit := false, payload := s.sourcePayload x.source }) := by
  simp [State.opening, State.needsProbe, State.mainFrame, main]

/-- The slot that the selection chose, its first attempt counted (R50, R51). -/
def State.chosenSlot (s : State) (p : Port) (r : Request) : Slot :=
  .active p
    { r with retryBudget := some (r.retryBudget.getD s.engine.active.retryBudget), attempts := r.attempts + 1 }

/-- The state in which a chosen request's first attempt has been counted, its frame not yet begun. -/
def State.requestChosen (s : State) (p : Port) (i : Nat) (r : Request) : State :=
  { s with
    slots := s.slots.set i (s.chosenSlot p r)
    scheduler := { s.scheduler with credit := min 8 (s.scheduler.credit + 1), busy := .request i } }

/-- The transaction of a chosen request (R81). -/
def Request.transaction (r : Request) (i : Nat) : Transaction :=
  { source := .request i, station := r.station, main := r.kind.main, phase := .mainFrame }

theorem State.beginRequest_eq {p : Port} {i : Nat} {r : Request} (inside : i < s.slots.length) :
    s.beginRequest p i r =
      (s.requestChosen p i r).sendsFrame (r.transaction i)
        ((s.requestChosen p i r).opening (r.transaction i)).1
        ((s.requestChosen p i r).opening (r.transaction i)).2 := by
  unfold State.beginRequest
  rw [State.beginAttempt_eq]
  have counted : (((s.setSlot i (.active p
        { r with retryBudget := some (r.retryBudget.getD s.engine.active.retryBudget) })).withScheduler
        { s.scheduler with credit := satInc 8 s.scheduler.credit, busy := .request i }).countAttempt
        (.request i)) = s.requestChosen p i r := by
    unfold State.countAttempt State.writeSlot
    have slot : ((s.setSlot i (.active p
        { r with retryBudget := some (r.retryBudget.getD s.engine.active.retryBudget) })).withScheduler
        { s.scheduler with credit := satInc 8 s.scheduler.credit, busy := .request i }).slot i = .active p
        { r with retryBudget := some (r.retryBudget.getD s.engine.active.retryBudget) } :=
      (State.setSlot_slot inside _ i).trans (if_pos rfl)
    dsimp only
    rw [slot]
    simp only [State.setSlot, State.withSlots, State.withScheduler, List.set_set]
    rfl
  dsimp only
  rw [counted]
  rfl

theorem State.requestChosen_payload {p : Port} {i : Nat} {r : Request} (inside : i < s.slots.length) :
    (s.requestChosen p i r).sourcePayload (.request i) = r.payload := by
  have slot : (s.requestChosen p i r).slot i = s.chosenSlot p r := by
    have := State.setSlot_slot inside (s.chosenSlot p r) i
    rwa [if_pos rfl] at this
  simp [State.sourcePayload, slot, State.chosenSlot, Slot.request?]

/-- Settles O40: an attempt's opening, for the transaction of a chosen request and of a poll visit. -/
theorem transactionsBeginTheirFrames : Obligations.TransactionsBeginTheirFrames := by
  refine ⟨fun s p i r frame phase inside frames => ?_, fun s a credit e found => ?_⟩
  · rw [State.beginRequest_eq inside]
    have payload := s.requestChosen_payload (p := p) (r := r) inside
    have opening : (s.requestChosen p i r).opening (r.transaction i) = (phase, frame) := by
      rcases frames with ⟨kind, rfl, rfl⟩ | ⟨kind, rfl, rfl⟩ | ⟨e, found, frames⟩
      · rw [State.opening_broadcast (by simp [Request.transaction, kind, RequestKind.main])]
        simp [Request.transaction, payload]
      · rw [State.opening_probe (by simp [Request.transaction, kind, RequestKind.main])]
        rfl
      · rw [State.opening_request (e := e) found]
        rcases frames with ⟨kind, joined, rfl, rfl⟩ | ⟨kind, joined, rfl, rfl⟩ | ⟨kind, joined, rfl, rfl⟩
        · simp [Request.transaction, kind, RequestKind.main, joined, payload]
        · simp [Request.transaction, kind, RequestKind.main, joined, payload]
        · rcases kind with kind | kind <;>
            simp [Request.transaction, kind, RequestKind.main, joined, probeFrame]
    rw [opening]
    have main : r.kind.main = match r.kind with
        | .send => .send
        | .fetch => .fetch
        | .probe => .probe
        | .broadcast => .broadcast := by cases r.kind <;> rfl
    simp only [Request.transaction, main]
    rfl
  · have offline : s.isOffline a = decide (e.state = .offline) := by simp [State.isOffline, found]
    unfold State.beginVisit
    rw [State.beginAttempt_eq]
    simp only [State.countAttempt, offline, decide_eq_true_eq]
    rw [State.opening_request (e := e) found]
    by_cases state : e.state = .offline
    · simp only [state, if_true, true_or, ne_eq, not_true, false_and, if_false]
      rfl
    · cases joined : e.synchronised <;>
        simp only [state, if_true, if_false, false_or, ne_eq, not_false_eq_true, true_and,
          Bool.false_eq_true, reduceCtorEq] <;> rfl

end

end Sys2Proof.Machine

/-! The Report Store's decision, and what follows the end of an exchange. -/

namespace Sys2Proof.Machine

section
variable {s t : State}

/-! ### The Report Store (R124 to R131) -/

theorem State.freeBuffer?_none (s : State) :
    s.freeBuffer? = none ↔ ∀ j < s.buffers.length, s.buffers.getD j none ≠ none := by
  simp only [State.freeBuffer?, List.find?_eq_none, List.mem_range, Option.isNone_iff_eq_none, Ne]

theorem State.offerReport_eq (s : State) (subs : List Subscription) (r : ReportNotice) :
    s.offerReport subs r = { s with queues := (s.offerReport subs r).queues } := by
  apply State.ext_fields <;> simp

/-- A report offered to a queue's port: its subscriber's queue admits it or counts it as missed. -/
theorem State.offerReport_get (s : State) {subs : List Subscription}
    (distinct : (subs.map Subscription.port).Nodup) (r : ReportNotice) (q : Port) :
    (s.offerReport subs r).queues.get q =
      match subs.find? (fun y => decide (y.port = q)) with
      | none => s.queues.get q
      | some y =>
        if s.isAttached q = false then s.queues.get q
        else if (s.queues.get q).notices.length + (s.queues.get q).reserved < 16 then
          { s.queues.get q with
            notices := (s.queues.get q).notices ++ [.report { r with gap := y.gap }], attn := true }
        else { s.queues.get q with missed := min 255 ((s.queues.get q).missed + 1) } := by
  rw [State.offerReport_queue s distinct]
  cases subs.find? (fun y => decide (y.port = q)) with
  | none => rfl
  | some y =>
    simp only [EventQueue.offer_eq]
    cases s.isAttached q <;> rfl

/-- Settles O43: Table 7-2 row by row. -/
theorem reportsAreJudgedAtTheStore : Obligations.ReportsAreJudgedAtTheStore := by
  intro s a e sBit noise payload directory found
  have entry := directory.entry found
  refine ⟨fun repeated => ?_, fun fresh unheard => ?_, fun fresh heard full => ?_, ?_⟩
  · simp [State.judgeReport, found, repeated]
  · have judged : s.judgeReport a sBit payload noise = s.putStation (e.consumed true) := by
      simp [State.judgeReport, found, fresh, unheard]
    rw [judged]
    rfl
  · have none := s.freeBuffer?_none.2 full
    have judged : s.judgeReport a sBit payload noise =
        s.putStation { e with deferredReports := satInc 65535 e.deferredReports } := by
      simp [State.judgeReport, found, fresh, heard, none]
    rw [judged]
    rfl
  · rintro i fresh heard inside empty lowest n rfl
    have free := (s.freeBuffer?_eq_some i).2 ⟨inside, empty, lowest⟩
    have judged : s.judgeReport a sBit payload noise = s.deliverReport e i payload noise := by
      simp [State.judgeReport, found, fresh, heard, free]
    have address : e.address = a := (State.station?_some found).2
    refine ⟨(s.offerReport e.subscribers ⟨a, i, payload.length, noise, false⟩).queues, ?_, fun q => ?_⟩
    · rw [judged, State.deliverReport, address, State.offerReport_eq]
      simp only [StationEntry.consumed, decide_eq_true_eq]
      rfl
    · exact State.offerReport_get s entry.subscribers_nodup _ q

/-! ### The end of an exchange (R92 to R101) -/

/-- The state after the reports of a judged result to the directory and the Report Store (R92). -/
def State.told (s : State) (x : Transaction) (j : Judgement) : State :=
  (s.applyReport x.station j.report).storeReport x.station j.store

theorem State.told_slots (s : State) (x : Transaction) (j : Judgement) :
    (s.told x j).slots = s.slots := by simp [State.told]

theorem State.told_slot (s : State) (x : Transaction) (j : Judgement) (i : Nat) :
    (s.told x j).slot i = s.slot i := State.slot_congr (s.told_slots x j) i

theorem State.handResult_eq {x : Transaction} {sBit : Bool} {result : ExchangeResult} {j : Judgement}
    (judged : j = judge x.sentKind sBit (s.replyLimit x.source) result) :
    s.handResult x sBit result =
      if x.phase = .joinProbe ∧ j.verdict = .success then
        ((s.told x j).writeSource j x.source).setPhase x .awaitMain
      else ((s.told x j).writeSource j x.source).endAttempt x j.verdict := by
  subst judged
  rfl

/-- What a judgement writes into a slot's request (R51). -/
theorem Judgement.write_eq (j : Judgement) (r : Request) :
    j.write r =
      { r with
        replyPayload := if j.reply = none then r.replyPayload else j.reply
        lastFault := match j.verdict with
          | .failure f => some f
          | _ => r.lastFault
        nakReason := match j.verdict with
          | .refused reason => some reason
          | _ => r.nakReason } := by
  unfold Judgement.write
  cases j.reply <;> cases j.verdict <;> rfl

theorem State.replyLimit_of_slot {i : Nat} {r : Request} (slot : (s.slot i).request? = some r) :
    s.replyLimit (.request i) = r.replyLimit.getD 0 := by
  simp [State.replyLimit, slot]

/-- An orphan's transaction ends with no COMPLETION (R57, R99). -/
theorem State.endAttempt_orphaned {x : Transaction} {i : Nat} {r : Request} (source : x.source = .request i)
    (slot : s.slot i = .orphaned r) (v : Verdict) :
    s.endAttempt x v = (s.setSlot i .free).transactionOver := by
  simp only [State.endAttempt, source, slot, State.finishRequest, State.endRequest,
    State.endTransaction_eq]

/-- What follows the attempt of an ACTIVE request (R95, R96). -/
theorem State.endAttempt_active {x : Transaction} {i : Nat} {p : Port} {r : Request}
    (source : x.source = .request i) (slot : s.slot i = .active p r) (v : Verdict) :
    s.endAttempt x v =
      match v with
      | .success => (s.endRequest i .ok).transactionOver
      | .refused _ => (s.endRequest i .refused).transactionOver
      | .tooLong => (s.endRequest i .replyTooLong).transactionOver
      | .failure f =>
        if r.cancelRequested = true then (s.endRequest i .cancelled).transactionOver
        else if s.isOffline r.station = true ∨ r.spent = true then (s.endRequest i f.status).transactionOver
        else s.setPhase x .awaitRetry := by
  simp only [State.endAttempt, source, slot, State.finishRequest, State.endTransaction_eq]
  cases v with
  | success | refused | tooLong => rfl
  | failure f =>
    simp only [State.attemptStatus]
    cases r.cancelRequested <;> cases s.isOffline r.station <;> cases r.spent <;> rfl

theorem LineFault.status_eq (f : LineFault) :
    f.status = if f = .noReply ∨ f = .strayOnly then .noReply else .badReply := by
  cases f <;> rfl

theorem State.isOffline_iff (s : State) (a : Nat) :
    s.isOffline a = true ↔ ∃ e, s.station? a = some e ∧ e.state = .offline := by
  unfold State.isOffline
  cases s.station? a <;> simp

/-- The slot of the transaction in progress after its judgement has been written. -/
theorem State.setSlot_slot_self {i : Nat} (inside : i < s.slots.length) (y : Slot) :
    (s.setSlot i y).slot i = y := (State.setSlot_slot inside y i).trans (if_pos rfl)

/-- Settles O45: the end of an exchange for no transaction and for one, then the judged result for a
visit, an orphan and an ACTIVE request. -/
theorem exchangesEndInTheGap : Obligations.ExchangesEndInTheGap := by
  refine ⟨fun s result => ⟨fun none => ?_, fun x transaction => ?_⟩, ?_⟩
  · have ended : s.endExchange result = s.withEngine s.engine.enterGap := by
      simp only [State.endExchange, none]
    exact ended
  · have handed : s.endExchange result =
        (s.withEngine s.engine.enterGap).handResult x (s.engine.exchange.any Frame.sBit) result := by
      simp only [State.endExchange, transaction]
    exact handed
  · intro s x sBit result limit j told judged reports
    have reports : told = s.told x j := by
      rw [reports, State.told]
      cases j.store <;> rfl
    refine ⟨?_, ?_⟩
    · rintro source rfl
      have unwritten : (s.told x j).writeSource j x.source = s.told x j := by rw [source]; rfl
      rw [State.handResult_eq (j := j) (by rw [judged, source]; rfl), unwritten, reports]
      refine ite_congr rfl (fun _ => rfl) (fun _ => ?_)
      simp only [State.endAttempt, source, State.endTransaction_eq]
    · rintro i r r' source inside rfl written
      have written : r' = j.write r := written.trans (j.write_eq r).symm
      have inTold : i < (s.told x j).slots.length := by rwa [State.told_slots]
      have handed : ∀ y : Slot, s.slot i = y → y.request? = some r →
          s.handResult x sBit result =
            if x.phase = .joinProbe ∧ j.verdict = .success then
              ((s.told x j).setSlot i (y.onLine j.write)).setPhase x .awaitMain
            else ((s.told x j).setSlot i (y.onLine j.write)).endAttempt x j.verdict := by
        intro y slot request
        rw [State.handResult_eq (j := j)
            (by rw [judged, source, State.replyLimit_of_slot (slot ▸ request)]; rfl), source,
          State.writeSource, State.writeSlot, State.told_slot, slot]
      refine ⟨fun slot => ?_, ?_⟩
      · rw [handed _ slot rfl, reports, written]
        refine ite_congr rfl (fun _ => rfl) (fun _ => ?_)
        refine (State.endAttempt_orphaned source (State.setSlot_slot_self inTold _) _).trans ?_
        simp only [State.setSlot, State.withSlots, List.set_set]
      · rintro p _ slot rfl
        rw [handed _ slot rfl, reports, written]
        refine ite_congr rfl (fun _ => rfl) (fun _ => ?_)
        obtain ⟨-, -, station, -, attempts, budget, -⟩ := j.write_same r
        have cancel : (j.write r).cancelRequested = r.cancelRequested := by rw [Judgement.write_eq]
        have offline : ((s.told x j).setSlot i (.active p (j.write r))).isOffline r.station =
            (s.told x j).isOffline r.station := rfl
        refine (State.endAttempt_active source (State.setSlot_slot_self inTold _) _).trans ?_
        rw [cancel, station]
        cases j.verdict with
        | success | refused | tooLong => rfl
        | failure f =>
          refine ite_congr rfl (fun _ => rfl) (fun _ => ite_congr (propext ?_) (fun _ => ?_) (fun _ => rfl))
          · rw [offline, State.isOffline_iff, Request.spent, attempts, budget, decide_eq_true_eq]
          · rw [LineFault.status_eq]
            rfl

end

end Sys2Proof.Machine

/-! The Line Engine: its timers, the receiver, the assembly of a frame and the end of the gap. -/

namespace Sys2Proof.Machine

section
variable {s t : State} {f : Frame} {samples : CharSamples} {c : Character}

/-! ### Timers (R107 to R109, R112) -/

theorem lastStopBitEnd_eq (phase : s.engine.phase = .sending) (exchange : s.engine.exchange = some f) :
    exec .lastStopBitEnd s =
      .next
        (if f.address = 0 then (s.onCounters (·.countSent)).endExchange .sent
        else
          (s.onCounters (·.countSent)).withEngine (s.onCounters (·.countSent)).engine.enterTurnaround) := by
  simp only [exec, execLastStopBitEnd, phase, exchange]
  split <;> rfl

theorem replyWindowEnd_eq (opened : s.engine.windowOpen = true) :
    (s.engine.phase = .receiving ∨ (s.engine.phase = .listening ∧ s.engine.receiving ≠ none) →
      exec .replyWindowEnd s = .next (s.withEngine { s.engine with windowOpen := false })) ∧
    (s.engine.phase = .listening → s.engine.receiving = none →
      exec .replyWindowEnd s =
        .next (s.withEngine { s.engine with windowOpen := false }).endUnanswered) := by
  constructor
  · rintro (phase | ⟨phase, receiving⟩)
    · simp only [exec, execReplyWindowEnd, opened, phase, Bool.true_eq_false, if_false]
    · obtain ⟨inWindow, receiving⟩ := Option.ne_none_iff_exists'.1 receiving
      simp only [exec, execReplyWindowEnd, opened, phase, receiving, Bool.true_eq_false, if_false]
  · intro phase receiving
    simp only [exec, execReplyWindowEnd, opened, phase, receiving, Bool.true_eq_false, if_false]

/-- Settles O44: the row of each timer. -/
theorem lineTimersEndTheirPhases : Obligations.LineTimersEndTheirPhases := by
  refine ⟨fun f s phase exchange => ?_, fun s phase => if_pos phase, fun s opened => ?_,
    fun s phase receiving => ?_⟩
  · refine (lastStopBitEnd_eq phase exchange).trans (congrArg Host.Outcome.next ?_)
    exact ite_congr rfl (fun _ => rfl) (fun _ => rfl)
  · exact replyWindowEnd_eq opened
  · have ended : exec .characterGapLimit s = .next (s.endReply (.invalid .truncated)) := by
      simp only [exec, execCharacterGapLimit, phase, receiving]
    exact ended

/-! ### The receiver in LISTENING (R109, R110) -/

theorem Character.isHead_eq_false (c : Character) :
    c.isHead = false ↔ c.mark = false ∨ c.framing = true := by
  unfold Character.isHead
  cases c.mark <;> cases c.framing <;> simp

theorem Character.matchesStation_iff (c : Character) (station : Nat) :
    c.matchesStation station = true ↔ c.data.getLsbD 7 = true ∧ c.data.toNat % 128 = station := by
  simp [Character.matchesStation]

theorem Engine.station_eq {e : Engine} (exchange : e.exchange = some f) : e.station = f.address := by
  simp [Engine.station, exchange]

theorem State.countStray_eq (s : State) :
    s.countStray =
      { s with
        engine :=
          { s.engine with
            strays := true
            counters :=
              { s.engine.counters with strayHeads := min 65535 (s.engine.counters.strayHeads + 1) } } } := rfl

theorem State.listenOn_of_listening (phase : s.engine.phase = .listening) (assembly : s.engine.assembly = []) :
    s.listenOn = if s.engine.windowOpen then s else s.endUnanswered := by
  have same : s.withEngine { s.engine with phase := .listening, assembly := [] } = s := by
    rw [← phase, ← assembly]
    rfl
  rw [State.listenOn, same]

theorem characterInListening_eq (phase : s.engine.phase = .listening) (whole : s.engine.cutAcross = false)
    (heard : samples.character = some c) :
    exec (.characterInListening samples) s =
      .next (if c.isHead then s.characterDone.takeHead c else s.characterDone.listenOn) := by
  simp only [exec, execCharacterInListening, phase, heard, whole, Bool.false_eq_true, if_false]
  split <;> rfl

/-- Settles O46: a character that is no head, a head of the exchange's station, any other head. -/
theorem listeningTakesHeadsAlone : Obligations.ListeningTakesHeadsAlone := by
  intro samples c f s phase assembly whole exchange heard
  refine (characterInListening_eq phase whole heard).trans (congrArg Host.Outcome.next ?_)
  have goesOn : ∀ u : State, u.engine.phase = s.engine.phase → u.engine.assembly = s.engine.assembly →
      u.listenOn = if u.engine.windowOpen then u else u.endUnanswered :=
    fun u h h' => State.listenOn_of_listening (h.trans phase) (h'.trans assembly)
  by_cases head : c.isHead = true
  · have notIgnored : ¬ (c.mark = false ∨ c.framing = true) := by
      rw [← Character.isHead_eq_false, head]
      nofun
    have station : s.characterDone.engine.station = f.address := Engine.station_eq exchange
    simp only [head, notIgnored, if_true, if_false, State.takeHead, station, Character.matchesStation_iff]
    refine ite_congr rfl (fun _ => rfl) (fun _ => ?_)
    refine (goesOn s.characterDone.countStray rfl rfl).trans ?_
    exact ite_congr rfl (fun _ => rfl) (fun _ => rfl)
  · have ignored : c.mark = false ∨ c.framing = true := (Character.isHead_eq_false c).1 (by simpa using head)
    simp only [head, ignored, if_true, if_false, Bool.false_eq_true]
    refine (goesOn s.characterDone rfl rfl).trans ?_
    exact ite_congr rfl (fun _ => rfl) (fun _ => rfl)

/-! ### The receiver in RECEIVING (R109, R111) -/

theorem characterInReceiving_eq (phase : s.engine.phase = .receiving) (whole : s.engine.cutAcross = false)
    (heard : samples.character = some c) :
    exec (.characterInReceiving samples) s =
      .next
        (if c.isHead then s.characterDone.newHead c (s.engine.receiving.getD s.engine.windowOpen)
        else s.characterDone.addCharacter c) := by
  simp only [exec, execCharacterInReceiving, phase, heard, whole, Bool.false_eq_true, if_false]
  split <;> rfl

/-- Settles O48: the head is taken as in LISTENING where it began within the window. -/
theorem newHeadAbandonsTheFrame : Obligations.NewHeadAbandonsTheFrame := by
  intro samples c f s phase exchange whole heard mark framing
  have head : c.isHead = true := by simp [Character.isHead, mark, framing]
  have taken := characterInReceiving_eq phase whole heard
  rw [if_pos head] at taken
  refine ⟨fun after => ?_, fun within => ?_⟩
  · rw [after] at taken
    exact taken
  · rw [within] at taken
    refine taken.trans (congrArg Host.Outcome.next ?_)
    have station : s.characterDone.countStray.engine.station = f.address := Engine.station_eq exchange
    simp only [State.newHead, if_true, State.takeHead, station, Character.matchesStation_iff]
    refine ite_congr rfl (fun _ => ?_) (fun _ => ?_)
    · have receiving : EnginePhase.receiving = s.engine.phase := phase.symm
      rw [receiving]
      rfl
    · simp only [State.listenOn, State.countStray_eq]
      exact ite_congr rfl (fun _ => rfl) (fun _ => rfl)

/-! ### The assembly of a frame and its validation (R111, R113, R114) -/

theorem assemblyStep_short {frame : List Character} (short : frame.length < 3) :
    assemblyStep frame = .more := by
  match frame, short with
  | [], _ | [_], _ | [_, _], _ => rfl

theorem assemblyStep_eq {frame : List Character} {n : Nat}
    (length : (frame[2]?).map (fun x => x.data.toNat) = some n) :
    assemblyStep frame =
      if 32 < n then .tooLong else if frame.length = n + 4 then .complete else .more := by
  match frame, length with
  | head :: control :: len :: rest, length =>
    obtain rfl : len.data.toNat = n := by simpa using length
    simp only [assemblyStep, maxPayload, List.length_cons]
    refine ite_congr rfl (fun _ => rfl) (fun _ => ite_congr (propext ⟨fun h => ?_, fun h => ?_⟩) (fun _ => rfl)
      (fun _ => rfl))
    · omega
    · omega

/-- A frame character joins the assembly, and the exchange ends where it completes the frame or its
length character is above 32. -/
theorem characterJoins (phase : s.engine.phase = .receiving) (whole : s.engine.cutAcross = false)
    (heard : samples.character = some c) (joins : c.mark = false ∨ c.framing = true) :
    exec (.characterInReceiving samples) s =
      .next
        (match assemblyStep (s.engine.assembly ++ [c]) with
        | .more =>
          s.characterDone.withEngine { s.characterDone.engine with assembly := s.engine.assembly ++ [c] }
        | .tooLong => s.characterDone.endReply (.invalid .format)
        | .complete => s.characterDone.endReply (validate (s.engine.assembly ++ [c]))) := by
  have notHead : ¬ c.isHead = true := by simp [(Character.isHead_eq_false c).2 joins]
  rw [characterInReceiving_eq phase whole heard, if_neg notHead]
  rfl

theorem FrameKind.ofCode_table : (List.range 16).map FrameKind.ofCode =
    [none, some .send, some .fetch, some .poll, some .probe, none, none, none, some .ack,
      some .nak, some .data, some .nil, some .report, none, none, none] := by decide

theorem FrameKind.allowsLength_iff (k : FrameKind) (n : Nat) : k.allowsLength n = true ↔
    (k = .send ∨ k = .report) ∧ 1 ≤ n ∧ n ≤ 32 ∨ k = .fetch ∧ n ≤ 8 ∨ k = .data ∧ n ≤ 32 ∨
      k ∉ [FrameKind.send, .report, .fetch, .data] ∧ n = 0 := by
  cases k <;> simp [FrameKind.allowsLength]

/-- The validation of a frame of head, control, length, payload and check (R114). -/
theorem validate_frame (head control length check : Character) (payload : List Character) :
    validate (head :: control :: length :: (payload ++ [check])) =
      if ∃ x ∈ head :: control :: length :: (payload ++ [check]), x.framing = true then .invalid .framing
      else if check.data ≠
          crc8 (head.data :: control.data :: length.data :: payload.map Character.data) then .invalid .check
      else
        formatCheck control.data (payload.map Character.data)
          (decide (∃ x ∈ head :: control :: length :: (payload ++ [check]), x.noise = true)) := by
  have bytes : (head :: control :: length :: (payload ++ [check])).map Character.data =
      (head.data :: control.data :: length.data :: payload.map Character.data) ++ [check.data] := by simp
  have noise : (head :: control :: length :: (payload ++ [check])).any Character.noise =
      decide (∃ x ∈ head :: control :: length :: (payload ++ [check]), x.noise = true) := by
    rw [Bool.eq_iff_iff, List.any_eq_true, decide_eq_true_iff]
  simp only [validate, bytes, noise, List.dropLast_concat, List.getLastD_concat, List.any_eq_true]
  refine ite_congr rfl (fun _ => rfl) (fun _ => ite_congr (propext ne_comm) (fun _ => rfl) (fun _ => ?_))
  simp

/-- Settles O47: what an assembly becomes with each character, and the tests of its validation. -/
theorem receivingAssemblesAFrame : Obligations.ReceivingAssemblesAFrame := by
  refine ⟨?_, fun head control length check payload => ?_, FrameKind.ofCode_table,
    FrameKind.allowsLength_iff⟩
  · rintro samples c s phase whole heard joins _ rfl
    have joined := characterJoins phase whole heard joins
    refine ⟨fun short => ?_, fun n length => ⟨fun low more => ?_, fun high => ?_, fun low last => ?_⟩⟩
    · rw [assemblyStep_short short] at joined
      exact joined
    · rw [assemblyStep_eq length, if_neg (Nat.not_lt.2 low), if_neg (Nat.ne_of_lt more)] at joined
      exact joined
    · rw [assemblyStep_eq length, if_pos high] at joined
      exact joined
    · rw [assemblyStep_eq length, if_neg (Nat.not_lt.2 low), if_pos last] at joined
      refine joined.trans ?_
      dsimp only
      unfold State.endReply
      cases validate (s.engine.assembly ++ [c]) <;> rfl
  · rw [validate_frame]
    refine ite_congr rfl (fun _ => rfl) (fun _ => ite_congr rfl (fun _ => rfl) (fun _ => ?_))
    unfold formatCheck
    cases FrameKind.ofCode (control.data.toNat % 16) with
    | none => rfl
    | some k =>
      cases allowed : k.allowsLength (payload.map Character.data).length <;>
        simp only [List.length_map] at allowed <;> simp [allowed]

/-! ### Characters that no exchange waits for (R105, R108, R116) -/

/-- Settles O50: the rows of the receiver outside an exchange, and of a start bit. -/
theorem receiverSeeksAndCounts : Obligations.ReceiverSeeksAndCounts := by
  refine ⟨fun samples c s phase high whole heard => ?_, fun samples s glitch => ?_,
    fun b s high free phase => ?_, fun b s high phase => ?_, fun samples s i high cut heard row => ?_⟩
  · have counted : exec (.unsolicitedCharacter samples) s =
        .next (s.characterDone.onCounters (·.countUnsolicited)) := by
      rcases phase with phase | phase <;>
        simp [exec, execUnsolicitedCharacter, phase, heard, high, whole]
    exact counted
  · cases phase : s.engine.phase <;> simp [exec, execUnsolicitedCharacter, phase, glitch]
  · have seeks : s.engine.receiverOff = false ∧ s.engine.seeks = true := by
      simp only [List.mem_cons, List.not_mem_nil, or_false] at phase
      rcases phase with phase | phase | phase | phase <;>
        simp [Engine.receiverOff, Engine.seeks, phase, free]
    have begun : exec (.acceptedStartBit b) s =
        .next (if b.majority then s
          else s.withEngine { s.engine with receiving := some s.engine.windowOpen, cutAcross := false }) := by
      cases glitch : b.majority <;> simp [exec, execAcceptedStartBit, glitch, high, seeks]
    exact begun
  · have off : s.engine.receiverOff = true := by
      simp only [List.mem_cons, List.not_mem_nil, or_false] at phase
      rcases phase with phase | phase <;> simp [Engine.receiverOff, phase]
    have crossed : exec (.acceptedStartBit b) s =
        .next (if b.majority then s else s.withEngine { s.engine with cutAcross := true }) := by
      cases glitch : b.majority <;> simp [exec, execAcceptedStartBit, glitch, high, off]
    exact crossed
  · obtain ⟨c, heard⟩ := Option.ne_none_iff_exists'.1 heard
    have lost : exec i s = .next s.characterLost := by
      rcases row with ⟨phase, rfl⟩ | ⟨phase, rfl⟩ | ⟨phase | phase, rfl⟩
      · simp [exec, execCharacterInListening, phase, heard, cut]
      · simp [exec, execCharacterInReceiving, phase, heard, cut]
      · simp [exec, execUnsolicitedCharacter, phase, heard, high, cut]
      · simp [exec, execUnsolicitedCharacter, phase, heard, high, cut]
    exact lost

/-! ### The end of the gap (R93, R96, R115) -/

theorem interFrameGapEnd_eq (gap : s.engine.phase = .gap) :
    exec .interFrameGapEnd s = .next (s.withEngine s.engine.enterIdle).resumeTransaction.select :=
  if_pos gap

theorem State.sourcePayload_eq {source : Source} {payload : List Byte}
    (from' : (source = .visit ∧ payload = []) ∨
      ∃ i r, source = .request i ∧ (s.slot i).request? = some r ∧ payload = r.payload) :
    s.sourcePayload source = payload := by
  rcases from' with ⟨rfl, rfl⟩ | ⟨i, r, rfl, slot, rfl⟩
  · rfl
  · simp [State.sourcePayload, slot]

/-- The main frame that follows a join probe (R93). -/
theorem State.mainFrame_eq {x : Transaction} {e : StationEntry} {payload : List Byte} {main : Frame}
    (found : s.station? x.station = some e) (carried : s.sourcePayload x.source = payload)
    (kind : x.main = .send ∧
        main = { address := x.station, kind := .send, sBit := e.sendBit, payload := payload } ∨
      x.main = .fetch ∧
        main = { address := x.station, kind := .fetch, sBit := false, payload := payload } ∨
      x.main = .poll ∧
        main = { address := x.station, kind := .poll, sBit := e.reportBit, payload := [] }) :
    s.mainFrame x = main := by
  unfold State.mainFrame
  rcases kind with ⟨kind, rfl⟩ | ⟨kind, rfl⟩ | ⟨kind, rfl⟩ <;> simp [kind, found, carried]

/-- A request's next attempt is counted (R51, R82). -/
theorem State.countAttempt_active {i : Nat} {q : Port} {r : Request} (slot : s.slot i = .active q r) :
    s.countAttempt (.request i) = s.setSlot i (.active q { r with attempts := r.attempts + 1 }) := by
  simp only [State.countAttempt, State.writeSlot, slot, Slot.onLine]

/-- The next attempt of an ACTIVE request whose station is enrolled (R82, R96). -/
theorem State.beginAttempt_active {x : Transaction} {i : Nat} {q : Port} {r : Request} {e : StationEntry}
    {main : Frame} (source : x.source = .request i) (inside : i < s.slots.length)
    (slot : s.slot i = .active q r) (found : s.station? x.station = some e)
    (kind : x.main = .send ∧
        main = { address := x.station, kind := .send, sBit := e.sendBit, payload := r.payload } ∨
      x.main = .fetch ∧
        main = { address := x.station, kind := .fetch, sBit := false, payload := r.payload } ∨
      x.main = .probe ∧ main = probeFrame x.station) :
    s.beginAttempt x =
      if x.main ≠ .probe ∧ e.synchronised = false then
        (s.setSlot i (.active q { r with attempts := r.attempts + 1 })).sendsFrame x .joinProbe
          (probeFrame x.station)
      else
        (s.setSlot i (.active q { r with attempts := r.attempts + 1 })).sendsFrame x .mainFrame main := by
  rw [State.beginAttempt_eq, source, State.countAttempt_active slot]
  have payload : (s.setSlot i (.active q { r with attempts := r.attempts + 1 })).sourcePayload x.source =
      r.payload :=
    State.sourcePayload_eq (.inr ⟨i, { r with attempts := r.attempts + 1 }, source,
      by rw [State.setSlot_slot_self inside]; rfl, rfl⟩)
  have opening := State.opening_request
    (s := s.setSlot i (.active q { r with attempts := r.attempts + 1 })) (e := e) found
  rw [payload] at opening
  rw [opening]
  rcases kind with ⟨kind, rfl⟩ | ⟨kind, rfl⟩ | ⟨kind, rfl⟩ <;>
    cases joined : e.synchronised <;> simp [kind]

/-- Settles O49: the engine, then the Transaction Unit by the phase of the record, then a selection. -/
theorem gapEndResumesTheLine : Obligations.GapEndResumesTheLine := by
  intro s gap u idle
  have idle : u = s.withEngine s.engine.enterIdle := idle
  have transactions : u.transaction = s.transaction := by rw [idle]; rfl
  have slots : ∀ i, u.slot i = s.slot i := fun i => by rw [idle]; rfl
  have stations : ∀ a, u.station? a = s.station? a := fun a => by rw [idle]; rfl
  have counted : u.slots.length = s.slots.length := by rw [idle]; rfl
  rw [interFrameGapEnd_eq gap, ← idle]
  refine ⟨fun none => ?_, fun x transaction => ⟨fun phase e payload main found from' kind => ?_,
    fun phase i source inside => ⟨fun q r e main slot going found kind => ?_, fun q r slot cancelled => ?_,
      fun r slot => ?_⟩⟩⟩
  all_goals refine congrArg (fun v : State => Host.Outcome.next v.select) ?_
  · simp only [State.resumeTransaction, transactions, none]
  · have frame : u.mainFrame x = main :=
      State.mainFrame_eq ((stations _).trans found) (State.sourcePayload_eq (by simp only [slots]; exact from')) kind
    simp only [State.resumeTransaction, transactions, transaction, phase, frame, State.handFrame_eq]
  · have onLine : u.slot i = .active q r := (slots i).trans slot
    have resumed : u.resumeTransaction = u.beginAttempt x := by
      simp only [State.resumeTransaction, transactions, transaction, phase, source, onLine, going,
        Bool.false_eq_true, if_false]
    rw [resumed, State.beginAttempt_active source (counted ▸ inside) onLine ((stations _).trans found) kind]
    rfl
  · have onLine : u.slot i = .active q r := (slots i).trans slot
    simp only [State.resumeTransaction, transactions, transaction, phase, source, onLine, cancelled, if_true,
      State.finishRequest, State.endTransaction_eq]
  · have onLine : u.slot i = .orphaned r := (slots i).trans slot
    have resumed : u.resumeTransaction = (u.setSlot i .free).transactionOver := by
      simp only [State.resumeTransaction, transactions, transaction, phase, source, onLine,
        State.finishRequest, State.endTransaction_eq, State.endRequest]
    exact resumed

end

end Sys2Proof.Machine

/-! Encodings: host packets and the bits of SDI and SDO, line frames and their characters. -/

namespace Sys2Proof.Machine

section

/-! ### Host packets (R153 to R156, R167, R168) -/

/-- A packet that ends in its check byte has sum 0 (R154, R167). -/
theorem packetSum_check (front : List Byte) : packetSum (front ++ [packetCheck front]) = 0#8 := by
  have sum : packetSum (front ++ [packetCheck front]) = packetSum front + (0#8 - packetSum front) := by
    simp [packetSum, packetCheck, List.foldl_append]
  rw [sum]
  generalize packetSum front = x
  bv_omega

/-- The bytes of a body that is not too long, between code and check, are read back as the command of
their code. -/
theorem ofPacket_commandPacket {p : Port} {code : Byte} {body : List Byte} (length : body.length ≤ 40) :
    Instr.ofPacket p (commandPacket code body) =
      some ((commandOfCode code p body).getD (.badCommand p code body)) := by
  have bytes : commandPacket code body = code :: BitVec.ofNat 8 body.length ::
      (body ++ [packetCheck (code :: BitVec.ofNat 8 body.length :: body)]) := rfl
  have len : (BitVec.ofNat 8 body.length).toNat = body.length := by
    simp only [BitVec.toNat_ofNat]
    omega
  have whole : packetWhole (commandPacket code body) = true := by
    simp [bytes, packetWhole, len, maxBody, Nat.not_lt.2 length]
  have good : packetBad (commandPacket code body) = false := by
    have sum := packetSum_check (code :: BitVec.ofNat 8 body.length :: body)
    simp only [List.cons_append] at sum
    simp [bytes, packetBad, len, maxBody, length, sum]
  rw [bytes] at whole good ⊢
  simp only [Instr.ofPacket, whole, good, if_true, Bool.false_eq_true, if_false, List.dropLast_concat]

/-- Whether a code is a command's does not turn on port or body. -/
theorem commandOfCode_of_not_command {code : Byte} (h : isCommandCode code = false) (p : Port)
    (body : List Byte) : commandOfCode code p body = none := by
  unfold isCommandCode commandOfCode at h
  unfold commandOfCode
  split at h <;> simp_all

/-- A well-formed command of a packet has a body of at most 40 bytes, and its code names it. -/
theorem Instr.packet_reads {i : Instr} {p : Port} {code : Byte} {body : List Byte} (wf : i.wellFormed = true)
    (parts : i.packetParts = some (p, code, body)) :
    body.length ≤ 40 ∧ (commandOfCode code p body).getD (.badCommand p code body) = i := by
  cases i with
  | badCommand q c b =>
    cases parts
    simp only [Instr.wellFormed, Bool.and_eq_true, Bool.not_eq_true', decide_eq_true_eq] at wf
    exact ⟨wf.2, by rw [commandOfCode_of_not_command wf.1]; rfl⟩
  | badPacket | fragment | timebaseTick | claimExpiry | lapse | deviceReset | lastStopBitEnd | turnaroundEnd
  | replyWindowEnd | characterInListening | characterInReceiving | unsolicitedCharacter | characterGapLimit
  | interFrameGapEnd | acceptedStartBit | deviceResetEnds | selectFalls | selectRises => cases parts
  | _ =>
    cases parts
    exact ⟨of_decide_eq_true wf, rfl⟩

/-! ### Bits on SDI and SDO (R152, R156) -/

theorem sdiBytes_part {part : List Bool} (short : part.length < 8) : sdiBytes part = [] := by
  match part, short with
  | [], _ | [_], _ | [_, _], _ | [_, _, _], _ | [_, _, _, _], _ | [_, _, _, _, _], _ | [_, _, _, _, _, _], _
  | [_, _, _, _, _, _, _], _ => rfl

theorem serialBits_eq (b : Byte) :
    serialBits b = [b.getLsbD 7, b.getLsbD 6, b.getLsbD 5, b.getLsbD 4, b.getLsbD 3, b.getLsbD 2,
      b.getLsbD 1, b.getLsbD 0] := by
  simp [serialBits, List.range, List.range.loop, BitVec.getMsbD]

/-- The bits of bytes, most significant first, are received as those bytes (R152). -/
theorem sdiBytes_flatMap (bytes : List Byte) {part : List Bool} (short : part.length < 8) :
    sdiBytes (bytes.flatMap serialBits ++ part) = bytes := by
  induction bytes with
  | nil => exact sdiBytes_part short
  | cons b bytes ih => rw [List.flatMap_cons, List.append_assoc, sdiBytes_serialBits, ih]

/-- Wait bytes, then the response packet, then 0x00 (R156). -/
theorem sdo_answered (r : Response) (waits : Fin 8) (n : Nat) :
    (n < waits.val + 1 → (Window.answered r).sdo waits n = some 0xEE#8) ∧
      (n < r.packet.length → (Window.answered r).sdo waits (waits.val + 1 + n) = r.packet[n]?) ∧
      (Window.answered r).sdo waits (waits.val + 1 + r.packet.length + n) = some 0x00#8 := by
  refine ⟨fun wait => ?_, fun inside => ?_, ?_⟩
  · simp [Window.sdo, Response.sdoByte, waitBytes, wait]
  · have sent : ¬ waits.val + 1 + n < waits.val + 1 := by omega
    simp [Window.sdo, Response.sdoByte, waitBytes, sent, inside]
  · have sent : ¬ waits.val + 1 + r.packet.length + n < waits.val + 1 := by omega
    have past : waits.val + 1 + r.packet.length + n - (waits.val + 1) = r.packet.length + n := by omega
    simp [Window.sdo, Response.sdoByte, waitBytes, sent, past]

theorem sdoBit_eq {w : Window} {waits : Fin 8} {n k : Nat} {b : Byte} (byte : w.sdo waits n = some b)
    (bit : k < 8) : w.sdoBit waits (8 * n + k) = some (b.getLsbD (7 - k)) := by
  have place : (8 * n + k) / 8 = n ∧ (8 * n + k) % 8 = k := by omega
  simp [Window.sdoBit, place, byte, BitVec.getMsbD, bit]

/-- Settles O51: a packet and its check byte, and the bytes and bits of the two data lines. -/
theorem hostPacketsReadBack : Obligations.HostPacketsReadBack := by
  refine ⟨fun i p code body wf parts => ?_, fun p body => rfl, fun code body => ?_,
    fun bytes part short => ?_, fun r => ?_, by decide, fun w waits n => ⟨?_, ?_, fun b k => sdoBit_eq⟩⟩
  · obtain ⟨length, reads⟩ := Instr.packet_reads wf parts
    exact ⟨by rw [Instr.toPacket, parts]; rfl, by rw [ofPacket_commandPacket length, reads]⟩
  · exact ⟨_, rfl, packetSum_check (code :: BitVec.ofNat 8 body.length :: body)⟩
  · have bits := sdiBytes_flatMap bytes short
    rwa [funext serialBits_eq] at bits
  · exact ⟨_, rfl, packetSum_check ([0xA7#8, r.status.code, byteOf r.body.length] ++ r.body),
      sdo_answered r⟩
  · rintro rfl
    rfl
  · rintro (rfl | rfl) <;> rfl

/-! ### Characters on the line (R104, R105, R118) -/

theorem byteOfBits_getLsbD (b : Byte) :
    byteOfBits [b.getLsbD 0, b.getLsbD 1, b.getLsbD 2, b.getLsbD 3, b.getLsbD 4, b.getLsbD 5,
      b.getLsbD 6, b.getLsbD 7] = b := by
  revert b
  decide

theorem BitSamples.clean_majority (v : Bool) : (BitSamples.clean v).majority = v := by cases v <;> rfl

theorem BitSamples.clean_disagree (v : Bool) : (BitSamples.clean v).disagree = false := by cases v <;> rfl

/-- Three equal samples of each bit are received as the character that was sent. -/
theorem clean_character (data : Byte) (mark : Bool) :
    (CharSamples.clean data mark).character =
      some { data := data, mark := mark, framing := false, noise := false } := by
  simp only [CharSamples.character, CharSamples.clean, CharSamples.dataByte, CharSamples.bits, List.map_cons,
    List.map_nil, List.any_cons, List.any_nil, BitSamples.clean_majority, BitSamples.clean_disagree,
    byteOfBits_getLsbD]
  rfl

theorem Character.lineBits_eq (c : Character) :
    c.lineBits =
      [false, c.data.getLsbD 0, c.data.getLsbD 1, c.data.getLsbD 2, c.data.getLsbD 3, c.data.getLsbD 4,
        c.data.getLsbD 5, c.data.getLsbD 6, c.data.getLsbD 7, c.mark, true] := rfl

theorem clean_iff (c : Character) (x : CharSamples) :
    x = .clean c.data c.mark ↔
      [x.start, x.d0, x.d1, x.d2, x.d3, x.d4, x.d5, x.d6, x.d7, x.mark, x.stop] =
        c.lineBits.map (fun v => BitSamples.mk v v v) := by
  cases x
  simp [Character.lineBits_eq, CharSamples.clean, BitSamples.clean]

/-- A bit of blocks of equal length. -/
theorem getElem?_flatMap_block {α β : Type} {f : α → List β} {n : Nat} (block : ∀ x, (f x).length = n) :
    ∀ (l : List α) (i : Nat) (x : α), l[i]? = some x → ∀ k, k < n → (l.flatMap f)[n * i + k]? = (f x)[k]?
  | y :: l, 0, x, h, k, hk => by
    cases h
    rw [List.flatMap_cons, Nat.mul_zero, Nat.zero_add, List.getElem?_append_left (by rw [block]; exact hk)]
  | y :: l, i + 1, x, h, k, hk => by
    have past : n * (i + 1) + k = (f y).length + (n * i + k) := by rw [block, Nat.mul_succ]; omega
    rw [List.flatMap_cons, past, List.getElem?_append_right (Nat.le_add_right ..), Nat.add_sub_cancel_left]
    exact getElem?_flatMap_block block l i x (by simpa using h) k hk

/-! ### Frames (R111, R114, R170) -/

/-- The characters of a frame: a head and characters with mark bit 0. -/
theorem frameCharacters_cons (head : Byte) (bytes : List Byte) :
    frameCharacters (head :: bytes) =
      { data := head, mark := true, framing := false, noise := false } ::
        bytes.map fun b => { data := b, mark := false, framing := false, noise := false } := by
  have later : ∀ (n : Nat) (l : List Byte),
      (l.zipIdx (n + 1)).map (fun x =>
        ({ data := x.1, mark := x.2 == 0, framing := false, noise := false } : Character)) =
      l.map fun b => { data := b, mark := false, framing := false, noise := false } := by
    intro n l
    induction l generalizing n with
    | nil => rfl
    | cons b l ih => simp [ih]
  simp [frameCharacters, later 0]

theorem FrameKind.code_lt (k : FrameKind) : k.code < 16 := by cases k <;> decide

theorem FrameKind.ofCode_code (k : FrameKind) : FrameKind.ofCode k.code = some k := by cases k <;> rfl

/-- A control character reads back (R83, Table 10-6). -/
theorem controlByte_reads (k : FrameKind) (sBit : Bool) {reason : Nat} (range : reason ≤ 7) :
    (controlByte k sBit reason).toNat % 16 = k.code ∧ (controlByte k sBit reason).getLsbD 4 = sBit ∧
      (controlByte k sBit reason).toNat / 32 = reason := by
  have code := k.code_lt
  have value : (controlByte k sBit reason).toNat = k.code + (if sBit then 16 else 0) + reason * 32 := by
    simp only [controlByte, byteOf, BitVec.toNat_ofNat]
    split <;> omega
  rw [← BitVec.testBit_toNat, value, Nat.testBit_eq_decide_div_mod_eq]
  cases sBit
  · simp
    omega
  · simp
    omega

theorem FrameKind.allowsLength_le {k : FrameKind} {n : Nat} (h : k.allowsLength n = true) : n ≤ 32 := by
  have := (k.allowsLength_iff n).1 h
  omega

/-- The characters that a frame is written as (R170). -/
theorem frameCharacters_frameBytes (head : Byte) (k : FrameKind) (sBit : Bool) (reason : Nat)
    (payload : List Byte) :
    frameCharacters (frameBytes head k sBit reason payload) =
      { data := head, mark := true, framing := false, noise := false } ::
        { data := controlByte k sBit reason, mark := false, framing := false, noise := false } ::
        { data := byteOf payload.length, mark := false, framing := false, noise := false } ::
        (payload.map (fun b => { data := b, mark := false, framing := false, noise := false }) ++
          [{ data := crc8 ([head, controlByte k sBit reason, byteOf payload.length] ++ payload)
             mark := false, framing := false, noise := false }]) := by
  simp [frameBytes, frameCharacters_cons]

theorem frameCharacters_length (head : Byte) (k : FrameKind) (sBit : Bool) (reason : Nat)
    (payload : List Byte) :
    (frameCharacters (frameBytes head k sBit reason payload)).length = payload.length + 4 := by
  simp [frameCharacters_frameBytes]

/-- The characters of a frame are assembled until the last (R111, R113). -/
theorem assemblyStep_frame {head : Byte} {k : FrameKind} {sBit : Bool} {reason : Nat} {payload : List Byte}
    (short : payload.length ≤ 32) (n : Nat) (inside : n ≤ payload.length + 4) :
    assemblyStep ((frameCharacters (frameBytes head k sBit reason payload)).take n) =
      if n = payload.length + 4 then .complete else .more := by
  have length := frameCharacters_length head k sBit reason payload
  have taken : ((frameCharacters (frameBytes head k sBit reason payload)).take n).length = n := by
    rw [List.length_take, length]
    omega
  by_cases few : n < 3
  · rw [assemblyStep_short (by omega), if_neg (by omega)]
  · have third : ((frameCharacters (frameBytes head k sBit reason payload)).take n)[2]?.map
        (fun x => x.data.toNat) = some payload.length := by
      rw [List.getElem?_take, if_pos (by omega), frameCharacters_frameBytes]
      simp only [List.getElem?_cons_succ, List.getElem?_cons_zero, Option.map_some, byteOf,
        BitVec.toNat_ofNat, Option.some.injEq]
      omega
    rw [assemblyStep_eq third, if_neg (by omega), taken]

theorem formatCheck_controlByte {k : FrameKind} {sBit : Bool} {reason : Nat} {payload : List Byte}
    (allowed : k.allowsLength payload.length = true) (bits : reason = 0 ∨ (k = .nak ∧ reason ≤ 7))
    (noise : Bool) :
    formatCheck (controlByte k sBit reason) payload noise =
      .frame { kind := k, sBit := sBit, reason := reason, payload := payload, noise := noise } := by
  obtain ⟨code, s, high⟩ := controlByte_reads k sBit (reason := reason) (by omega)
  have plain : ¬ (k ≠ .nak ∧ reason ≠ 0) := by tauto
  simp only [formatCheck, code, s, high, FrameKind.ofCode_code, allowed, plain, Bool.not_true,
    Bool.false_eq_true, if_false]

/-- The characters of a frame that the protocol admits validate to it (R114). -/
theorem validate_frameCharacters {head : Byte} {k : FrameKind} {sBit : Bool} {reason : Nat}
    {payload : List Byte} (allowed : k.allowsLength payload.length = true)
    (bits : reason = 0 ∨ (k = .nak ∧ reason ≤ 7)) :
    validate (frameCharacters (frameBytes head k sBit reason payload)) =
      .frame { kind := k, sBit := sBit, reason := reason, payload := payload, noise := false } := by
  have data : (payload.map (fun b =>
      ({ data := b, mark := false, framing := false, noise := false } : Character))).map Character.data =
      payload := by
    rw [List.map_map]
    exact List.map_id payload
  rw [frameCharacters_frameBytes, validate_frame, data, if_neg (by simp), if_neg (by simp),
    formatCheck_controlByte allowed bits]
  simp

theorem Frame.characters_length (f : Frame) : f.characters.length = f.payload.length + 4 :=
  frameCharacters_length ..

theorem Frame.lineBits_length (f : Frame) : f.lineBits.length = 11 * (f.payload.length + 4) := by
  have eleven : ∀ l : List Character, (l.flatMap Character.lineBits).length = 11 * l.length := fun l => by
    induction l with
    | nil => rfl
    | cons c l ih => rw [List.flatMap_cons, List.length_append, ih, Character.lineBits_eq]; simp; omega
  rw [← f.characters_length]
  exact eleven _

/-- The level of TXD in SENDING and outside it (R104). -/
theorem State.txd_eq (s : State) (n : Nat) :
    (s.engine.phase ≠ .sending → s.txd n = true) ∧
      ∀ f, s.engine.phase = .sending → s.engine.exchange = some f → n < f.lineBits.length →
        f.lineBits[n]? = some (s.txd n) := by
  unfold State.txd
  refine ⟨fun silent => ?_, fun f sending exchange inside => ?_⟩
  · cases phase : s.engine.phase <;> simp_all
  · simp [sending, exchange, inside]

/-! ### Stations on the line (R110, R172) -/

/-- A station takes a run of characters exactly where it passes its tests. -/
theorem FieldStation.takes_cons (st : FieldStation) (noIdle : Bool) (head : Character)
    (rest : List Character) :
    st.takes noIdle (head :: rest) =
      if noIdle = true ∧ head.isHead = true ∧ head.data.getLsbD 7 = false ∧
          (head.data.toNat = st.address ∨ head.data.toNat = 0) ∧ assemblyStep (head :: rest) = .complete then
        match validate (head :: rest) with
        | .frame f => some f
        | .sent | .invalid _ | .silent | .stray => none
      else none := by
  have tests : (noIdle && head.isHead && !head.data.getLsbD 7 &&
      (head.data.toNat == st.address || head.data.toNat == 0) &&
      decide (assemblyStep (head :: rest) = .complete)) = decide (noIdle = true ∧ head.isHead = true ∧
        head.data.getLsbD 7 = false ∧ (head.data.toNat = st.address ∨ head.data.toNat = 0) ∧
        assemblyStep (head :: rest) = .complete) := by
    rw [Bool.eq_iff_iff]
    simp [and_assoc]
  unfold FieldStation.takes
  refine ite_congr (by rw [tests, decide_eq_true_eq]) (fun _ => ?_) (fun _ => rfl)
  cases validate (head :: rest) <;> rfl

theorem FieldStation.takes_of_incomplete {st : FieldStation} {noIdle : Bool} {line : List Character}
    (h : assemblyStep line ≠ .complete) : st.takes noIdle line = none := by
  cases taken : st.takes noIdle line with
  | none => rfl
  | some f =>
    obtain ⟨-, -, -, -, -, -, -, complete, -⟩ := FieldStation.takes_cases taken
    exact absurd complete h

/-- A station takes the part's frames to it and to address 0 (R172). -/
theorem FieldStation.takes_characters {st : FieldStation} {f : Frame} (noIdle : Bool)
    (address : f.address ≤ 126) (allowed : f.kind.allowsLength f.payload.length = true) :
    st.takes noIdle f.characters =
      if noIdle = true ∧ (f.address = st.address ∨ f.address = 0) then
        some { kind := f.kind, sBit := f.sBit, reason := 0, payload := f.payload, noise := false }
      else none := by
  have complete := assemblyStep_frame (head := byteOf f.address) (k := f.kind) (sBit := f.sBit) (reason := 0)
    (FrameKind.allowsLength_le allowed) (f.payload.length + 4) le_rfl
  rw [if_pos rfl, List.take_of_length_le (by rw [frameCharacters_length])] at complete
  have valid := validate_frameCharacters (head := byteOf f.address) (sBit := f.sBit) allowed (.inl rfl)
  have toNat : (byteOf f.address).toNat = f.address := by
    simp only [byteOf, BitVec.toNat_ofNat]
    omega
  have direction : (byteOf f.address).getLsbD 7 = false := by
    rw [← BitVec.testBit_toNat, toNat]
    exact Nat.testBit_lt_two_pow (by omega)
  unfold Frame.characters Frame.dataBytes
  rw [frameCharacters_frameBytes] at complete valid ⊢
  rw [FieldStation.takes_cons, complete, valid]
  simp only [Character.isHead, direction, toNat, Bool.not_false, Bool.and_true, true_and, and_true]

/-- A station hears a run that it discards, a broadcast, or a frame to it. -/
theorem FieldStation.hears_cases (st : FieldStation) (will : StationWill) (noIdle : Bool)
    (line : List Character) :
    (st.takes noIdle line = none →
      st.hears will noIdle line = { station := st, acted := none, reply := none }) ∧
    ((∃ c ∈ line, c.framing = true) → st.takes noIdle line = none) ∧
    ∀ f, st.takes noIdle line = some f →
      (line.head?.map (fun c => c.data.toNat) = some 0 →
        (st.hears will noIdle line).station = st ∧ (st.hears will noIdle line).reply = none) ∧
      (line.head?.map (fun c => c.data.toNat) = some st.address → st.address ≠ 0 →
        st.hears will noIdle line = st.takeFrame will f) := by
  refine ⟨fun discarded => ?_, fun framing => ?_, fun f taken => ⟨fun zero => ?_, fun own ne => ?_⟩⟩
  · simp only [FieldStation.hears, discarded]
  · cases taken : st.takes noIdle line with
    | none => rfl
    | some f =>
      obtain ⟨-, -, -, -, -, -, -, -, valid⟩ := FieldStation.takes_cases taken
      have bad : line.any Character.framing = true := List.any_eq_true.2 framing
      simp [validate, bad] at valid
  · have broadcast : line.head?.any (fun head => head.data.toNat == 0) = true := by
      cases hd : line.head? <;> simp_all
    simp only [FieldStation.hears, taken, broadcast, if_true]
    exact ⟨rfl, rfl⟩
  · have addressed : line.head?.any (fun head => head.data.toNat == 0) = false := by
      cases hd : line.head? <;> simp_all
    simp only [FieldStation.hears, taken, addressed, Bool.false_eq_true, if_false]

/-- A station's reply opens with a head that matches it (R110, R172). -/
theorem FieldStation.replyCharacters_head {st : FieldStation} (r : Reply) (range : st.address ≤ 126) :
    ∃ head rest, st.replyCharacters r = head :: rest ∧ head.isHead = true ∧
      head.matchesStation st.address = true := by
  refine ⟨_, _, frameCharacters_frameBytes .., rfl, ?_⟩
  have toNat : (byteOf (128 + st.address)).toNat = 128 + st.address := by
    simp only [byteOf, BitVec.toNat_ofNat]
    omega
  have direction : (byteOf (128 + st.address)).getLsbD 7 = true := by
    rw [← BitVec.testBit_toNat, toNat, Nat.testBit_eq_decide_div_mod_eq]
    simp
    omega
  rw [Character.matchesStation_iff]
  exact ⟨direction, by rw [toNat]; omega⟩

/-! ### The check character (R171) -/

theorem crc8_append (bytes : List Byte) (b : Byte) :
    crc8 (bytes ++ [b]) = crcShift^[8] (crc8 bytes ^^^ b) := by
  simp only [crc8, List.foldl_append, List.foldl_cons, List.foldl_nil]
  rfl

/-- Settles O52: frames as the part and a station read them, down to the bits of a character. -/
theorem lineFramesReadBack : Obligations.LineFramesReadBack := by
  refine ⟨?_, fun f => rfl, clean_character, fun c x => ⟨Character.lineBits_eq c, clean_iff c x⟩,
    fun f => ⟨f.characters_length, f.lineBits_length, fun i c h k hk => ?_⟩, State.txd_eq, fun c => rfl, ?_,
    FieldStation.hears_cases, fun st r _ range => FieldStation.replyCharacters_head r range, rfl, crc8_append⟩
  · rintro head kind sBit reason payload _ allowed bits rfl
    have step := assemblyStep_frame (head := head) (k := kind) (sBit := sBit) (reason := reason)
      (FrameKind.allowsLength_le allowed)
    have length := frameCharacters_length head kind sBit reason payload
    refine ⟨fun k _ inside => ?_, ?_, validate_frameCharacters allowed bits⟩
    · rw [length] at inside
      rw [step k (Nat.le_of_lt inside), if_neg (Nat.ne_of_lt inside)]
    · have whole := step _ le_rfl
      rwa [if_pos rfl, List.take_of_length_le (by rw [length])] at whole
  · exact getElem?_flatMap_block (fun c => by rw [Character.lineBits_eq]; rfl) _ i c h k hk
  · intro st f noIdle _ _ address allowed
    refine ⟨FieldStation.takes_characters noIdle address allowed, fun k inside => ?_⟩
    rw [f.characters_length] at inside
    refine FieldStation.takes_of_incomplete ?_
    unfold Frame.characters Frame.dataBytes
    rw [assemblyStep_frame (FrameKind.allowsLength_le allowed) k (Nat.le_of_lt inside),
      if_neg (Nat.ne_of_lt inside)]
    nofun

end

end Sys2Proof.Machine


/-! PROOF. The whole machine and the host ports: what a step runs, the values that device reset leaves,
the frame of an exchange, the packets that are refused, and the sessions (chapter 9). -/

namespace Sys2Proof.Machine

/-! ### Commands and their answers -/

section
variable {s t : State} {p : Port} {e : Effect} {st : Status} {body : List Byte}

/-- What a packet in a window that receives one comes to, from the command's effect on the state in
which the packet was heard. -/
theorem receives_answers (h : s.Receives p) (effect : e (s.heard p) = (t, ⟨st, body⟩)) :
    Host.Outcome.next (φ := Fault) (ρ := Refusal) (s.takePacket p e) = .next (t.answer p st body) := by
  rw [State.takePacket_of_receives e h, effect]

theorem ready_answers (h : s.Ready p) (effect : e (s.heard p) = (t, ⟨st, body⟩)) :
    Host.Outcome.next (φ := Fault) (ρ := Refusal) (s.takePacket p (attachedOnly p e)) =
      .next (t.answer p st body) := by
  rw [State.takePacket_of_ready e h, effect]

theorem controls_answers (h : s.Ready p) (hc : s.Controls p)
    (effect : e (s.heard p) = (t, ⟨st, body⟩)) :
    Host.Outcome.next (φ := Fault) (ρ := Refusal) (s.takePacket p (lineControl p e)) =
      .next (t.answer p st body) := by
  rw [State.takePacket_of_controls e h hc, effect]

end

/-! ### Steps and completion -/

section

/-- Settles O1: the step reads the queue's front, and the rest is what it leaves. -/
theorem stepTakesFrontCommand : Obligations.StepTakesFrontCommand := by
  intro c rest s front
  simp only [step, front]
  rfl

/-- The command answers a next state: it neither faults nor is refused. -/
def Completes (o : Host.Outcome State Fault Refusal) : Prop := ∃ t, o = .next t

theorem completes_next (t : State) : Completes (.next t) := ⟨t, rfl⟩

theorem completes_ite {b : Prop} [Decidable b] {x y : Host.Outcome State Fault Refusal}
    (hx : Completes x) (hy : Completes y) : Completes (if b then x else y) := by
  split
  · exact hx
  · exact hy

theorem completes_next_ite {b : Prop} [Decidable b] (x y : State) :
    Completes (if b then .next x else .next y) :=
  completes_ite (completes_next x) (completes_next y)

theorem execBadPacket_completes (p : Port) (bytes : List Byte) (s : State) :
    Completes (execBadPacket p bytes s) := by
  unfold execBadPacket
  split
  · exact completes_next_ite _ _
  all_goals exact completes_next _

theorem execFragment_completes (p : Port) (bytes : List Byte) (s : State) :
    Completes (execFragment p bytes s) := by
  refine completes_ite (completes_next _) ?_
  split <;> exact completes_next _

theorem execSelectFalls_completes (p : Port) (s : State) : Completes (execSelectFalls p s) := by
  unfold execSelectFalls
  split <;> exact completes_next _

theorem execClaimExpiry_completes (target : Nat) (s : State) :
    Completes (execClaimExpiry target s) := by
  unfold execClaimExpiry
  split
  · exact completes_next _
  · exact completes_next_ite _ _

theorem execLastStopBitEnd_completes (s : State) : Completes (execLastStopBitEnd s) := by
  unfold execLastStopBitEnd
  split
  · exact completes_next_ite _ _
  · exact completes_next _

theorem execReplyWindowEnd_completes (s : State) : Completes (execReplyWindowEnd s) := by
  refine completes_ite (completes_next _) ?_
  dsimp only
  split <;> exact completes_next _

theorem execCharacterInListening_completes (c : CharSamples) (s : State) :
    Completes (execCharacterInListening c s) := by
  unfold execCharacterInListening
  split
  · exact completes_ite (completes_next _) (completes_next_ite _ _)
  · exact completes_next _

theorem execCharacterInReceiving_completes (c : CharSamples) (s : State) :
    Completes (execCharacterInReceiving c s) := by
  unfold execCharacterInReceiving
  split
  · exact completes_ite (completes_next _) (completes_next_ite _ _)
  · exact completes_next _

theorem execUnsolicitedCharacter_completes (c : CharSamples) (s : State) :
    Completes (execUnsolicitedCharacter c s) := by
  unfold execUnsolicitedCharacter
  split
  · exact completes_ite (completes_next _) (completes_next_ite _ _)
  · exact completes_ite (completes_next _) (completes_next_ite _ _)
  · exact completes_next _

theorem execCharacterGapLimit_completes (s : State) : Completes (execCharacterGapLimit s) := by
  unfold execCharacterGapLimit
  split <;> exact completes_next _

theorem execAcceptedStartBit_completes (b : BitSamples) (s : State) :
    Completes (execAcceptedStartBit b s) :=
  completes_ite (completes_next _) (completes_ite (completes_next _) (completes_next_ite _ _))

/-- Settles O2: a packet's command answers by its form, and every other happening by its cases. -/
theorem everyCommandCompletes : Obligations.EveryCommandCompletes := by
  intro c s
  cases c with
  | badPacket p bytes => exact execBadPacket_completes p bytes s
  | badCommand p code body => exact completes_next_ite _ _
  | fragment p bytes => exact execFragment_completes p bytes s
  | timebaseTick => exact completes_next_ite _ _
  | claimExpiry target => exact execClaimExpiry_completes target s
  | lapse p => exact completes_next_ite _ _
  | lastStopBitEnd => exact execLastStopBitEnd_completes s
  | turnaroundEnd => exact completes_next_ite _ _
  | replyWindowEnd => exact execReplyWindowEnd_completes s
  | characterInListening c => exact execCharacterInListening_completes c s
  | characterInReceiving c => exact execCharacterInReceiving_completes c s
  | unsolicitedCharacter c => exact execUnsolicitedCharacter_completes c s
  | characterGapLimit => exact execCharacterGapLimit_completes s
  | interFrameGapEnd => exact completes_next_ite _ _
  | acceptedStartBit b => exact execAcceptedStartBit_completes b s
  | selectFalls p => exact execSelectFalls_completes p s
  | _ => exact completes_next _

end

/-! ### Device reset -/

section

/-- Settles O3: the reset state is a constant, so each value is read off it. -/
theorem resetValues : Obligations.ResetValues := by
  refine ⟨fun p => ?_, rfl, rfl, rfl, rfl, rfl, rfl, rfl, rfl, rfl, rfl, rfl, fun _ => rfl⟩
  cases p <;> exact ⟨rfl, rfl, rfl⟩

/-- Every group but the one of RESET_n is a decidable statement about the constant reset state, and in
that one RESET_n is high. -/
theorem reset_sound : State.reset.Sound := by
  refine ⟨?_, ?_, ?_, ?_, ?_, ?_, ?_, ?_, ?_, ?_, ?_, ?_, ?_, ?_, ?_, ?_, fun low => ?_⟩
  case refine_17 => exact absurd low (by decide)
  all_goals decide

/-- Settles O4: what the smaller invariants ask beyond soundness is decided too. -/
theorem resetIsSound : Obligations.ResetIsSound :=
  ⟨reset_sound, by decide, by decide, by decide⟩

theorem Window.atReset_eq (w : Window) :
    w.atReset = if w = .closed then .closed else .ignored := by
  cases w <;> rfl

/-- Settles O5: the two rows are single writes; a window's phase at reset is its two cases. -/
theorem deviceResetRestoresEveryBlock : Obligations.DeviceResetRestoresEveryBlock := by
  refine ⟨fun s => ?_, fun s => rfl⟩
  rw [show (fun w : Window => if w = .closed then Window.closed else .ignored) = Window.atReset from
    funext fun w => w.atReset_eq.symm]
  rfl

end

/-! ### The exchange and the packets that are refused -/

section

/-- Settles O6: each row looks at the phase of the port's window alone. -/
theorem selectFramesTheExchange : Obligations.SelectFramesTheExchange := by
  refine ⟨fun p s closed => ?_, fun p s => rfl, fun p bytes s receives some_bytes short => ?_⟩
  · simp only [exec, execSelectFalls, closed]
    rfl
  · have front : (bytes.isEmpty || packetComplete bytes) = false := by
      rw [short, List.isEmpty_eq_false_iff.2 some_bytes]
      rfl
    simp only [exec, execFragment, front, receives]
    rfl

theorem execBadPacket_of_receives {p : Port} {bytes : List Byte} {s : State} (h : s.Receives p)
    (whole : packetWhole bytes = true) (bad : packetBad bytes = true) :
    exec (.badPacket p bytes) s = .next (s.answer p .badPacket []) := by
  simp only [exec, execBadPacket, h, whole, bad]
  rfl

theorem execBadPacket_of_not_receives {p : Port} (bytes : List Byte) {s : State}
    (h : ¬ s.Receives p) : exec (.badPacket p bytes) s = .next s := by
  simp only [exec, execBadPacket]
  split
  · exact absurd ‹_› h
  all_goals rfl

theorem packetWhole_of_body (code check : Byte) {body : List Byte} (h : body.length ≤ 40) :
    packetWhole (code :: byteOf body.length :: (body ++ [check])) = true := by
  have len : (byteOf body.length).toNat = body.length := by
    simp only [byteOf, BitVec.toNat_ofNat]
    omega
  simp [packetWhole, len, maxBody, show ¬ 40 < body.length by omega]

theorem packetBad_of_sum {code len : Byte} {rest : List Byte}
    (h : (code :: len :: rest).foldl (· + ·) 0#8 ≠ 0#8) : packetBad (code :: len :: rest) = true := by
  have sum : packetSum (code :: len :: rest) ≠ 0#8 := h
  simp [packetBad, sum]

theorem execBadCommand_eq {code : Byte} (h : isCommandCode code = false) (p : Port)
    (body : List Byte) (s : State) :
    exec (.badCommand p code body) s =
      .next (s.takePacket p (fun s => (s, reply .badCommand))) := by
  simp only [exec, execBadCommand, h]
  rfl

/-- The commands that packets carry: all but ATTACH and PORT_STATUS need a session, and a code that is
no command's has a row of its own. -/
theorem exec_packet {i : Instr} {p : Port} {code : Byte} {body : List Byte}
    (parts : i.packetParts = some (p, code, body)) :
    (∃ e, ∀ s, exec i s = .next (s.takePacket p (attachedOnly p e))) ∨
      ((code = 0x01#8 ∨ code = 0x03#8) ∧ ∃ e, ∀ s, exec i s = .next (s.takePacket p e)) ∨
      i = .badCommand p code body := by
  cases i with
  | attach q b => cases parts; exact .inr (.inl ⟨.inl rfl, _, fun _ => rfl⟩)
  | portStatus q b => cases parts; exact .inr (.inl ⟨.inr rfl, _, fun _ => rfl⟩)
  | badCommand q c b => cases parts; exact .inr (.inr rfl)
  | _ => cases parts <;> exact .inl ⟨_, fun _ => rfl⟩

theorem exec_packet_of_not_receives {i : Instr} {p : Port} {code : Byte} {body : List Byte}
    (parts : i.packetParts = some (p, code, body)) {s : State} (h : ¬ s.Receives p) :
    exec i s = .next s := by
  obtain ⟨e, eq⟩ | ⟨-, e, eq⟩ | rfl := exec_packet parts
  · rw [eq, State.takePacket_of_not_receives _ h]
  · rw [eq, State.takePacket_of_not_receives _ h]
  · cases known : isCommandCode code with
    | true => simp only [exec, execBadCommand, known, if_true]
    | false => rw [execBadCommand_eq known, State.takePacket_of_not_receives _ h]

/-- Settles O7: which bytes are a bad packet, and what each refusal leaves. -/
theorem refusedPacketsHaveNoEffect : Obligations.RefusedPacketsHaveNoEffect := by
  refine ⟨fun p code len s receives long => ?_, fun p code check body s receives short sum => ?_,
    fun p code body s receives unknown => ?_, fun i p code body s parts away => ?_,
    fun p bytes s away => execBadPacket_of_not_receives bytes away⟩
  · exact execBadPacket_of_receives receives (by simp [packetWhole, maxBody, long])
      (by simp [packetBad, maxBody, long])
  · exact execBadPacket_of_receives receives (packetWhole_of_body code check short)
      (packetBad_of_sum sum)
  · rw [execBadCommand_eq unknown]
    exact receives_answers receives rfl
  · exact exec_packet_of_not_receives parts away

/-- Settles O8: what the commands but those two have in common is the test of the session. -/
theorem detachedPortsAreRefused : Obligations.DetachedPortsAreRefused := by
  intro i p code body s wellFormed parts known notAttach notStatus receives detached
  obtain ⟨e, eq⟩ | ⟨one, -⟩ | rfl := exec_packet parts
  · rw [eq, State.takePacket_of_detached _ receives detached]
  · exact absurd one (by simp [notAttach, notStatus])
  · simp [Instr.wellFormed, known] at wellFormed

end

/-! ### Sessions -/

section

theorem lapseArg_two (h l : Byte) :
    lapseArg [h, l] =
      if h.toNat * 256 + l.toNat ≠ 0 ∧
          (h.toNat * 256 + l.toNat < 50 ∨ 60000 < h.toNat * 256 + l.toNat) then none
      else some (h.toNat * 256 + l.toNat) := by
  have word : ofWord h l = h.toNat * 256 + l.toNat := rfl
  rw [← word, lapseArg]
  by_cases refused : ofWord h l ≠ 0 ∧ (ofWord h l < 50 ∨ 60000 < ofWord h l)
  · rw [if_pos refused, if_neg (by rw [inRange_eq_true_iff]; omega)]
  · rw [if_neg refused, if_pos (by rw [inRange_eq_true_iff]; omega)]

theorem lapseArg_of_length {body : List Byte} (h : body.length ≠ 2) : lapseArg body = none := by
  match body, h with
  | [], _ => rfl
  | [_], _ => rfl
  | [_, _], h => exact absurd rfl h
  | _ :: _ :: _ :: _, _ => rfl

theorem nextSession_eq {n : Nat} (h : n ≤ 255) : nextSession n = if n = 255 then 1 else n + 1 := by
  unfold nextSession
  split <;> split <;> omega

theorem attach_of_attached {p : Port} {s : State} (body : List Byte) (h : s.Receives p)
    (attached : s.isAttached p = true) :
    exec (.attach p body) s = .next ((s.heard p).answer p .alreadyAttached []) :=
  receives_answers h (by
    rw [attachEffect, State.heard_isAttached, if_pos attached]
    rfl)

/-- ATTACH on a detached port is decided by its argument. -/
theorem attach_of_detached {p : Port} {s : State} (body : List Byte) (h : s.Receives p)
    (detached : s.isAttached p = false) :
    exec (.attach p body) s =
      .next
        (match lapseArg body with
        | none => s.answer p .badArgument []
        | some lapse =>
          ({ s with
            records := s.records.set p ((s.records.get p).attach lapse)
            ticked := s.timerNoted p }).answer p .ok
            [byteOf (nextSession (s.records.get p).number), protocolVersion]) := by
  have heard := State.heard_of_detached detached
  cases arg : lapseArg body with
  | none =>
    refine receives_answers h ?_
    simp only [heard, attachEffect, detached, arg]
    rfl
  | some lapse =>
    refine receives_answers h ?_
    simp only [heard, attachEffect, detached, arg, State.timerSet_eq]
    rfl

/-- A detached port, in a state whose accounts are sound, owns nothing: its queue reserves nothing, and
only attached ports subscribe or ask for a sweep. -/
theorem AccountsOk.detached {s : State} (h : s.AccountsOk) {p : Port}
    (detached : s.isAttached p = false) :
    s.queues.get p = { notices := [], reserved := 0, missed := 0, attn := false } ∧
    s.slotsOwned p = 0 ∧ s.claimsHeld p = 0 ∧ s.claimsWaited p = 0 ∧
    (∀ e ∈ s.directory, ∀ x ∈ e.subscribers, x.port ≠ p) ∧ s.scheduler.requester ≠ some p := by
  obtain ⟨-, attn, room, ⟨-, -, subscribers, requester⟩, -, -⟩ := h
  have empty : s.queues.get p = .reset := (attn p (Port.mem_all p)).2.2 detached
  have reserved := (room p (Port.mem_all p)).2
  rw [empty] at reserved
  have none_reserved : 0 = s.slotsOwned p + s.claimsHeld p + 2 * s.claimsWaited p := reserved
  refine ⟨empty, by omega, by omega, by omega, fun e he x hx port => ?_, fun port => ?_⟩
  · have attached := subscribers e he x hx
    rw [port, detached] at attached
    cases attached
  · have attached := requester p port
    rw [detached] at attached
    cases attached

/-- Settles O9: the session test first, then the argument; and what a detached port is without. -/
theorem attachOpensASession : Obligations.AttachOpensASession := by
  refine ⟨fun p h l s receives number => ?_, fun p body s receives length => ?_,
    fun p s ok detached => AccountsOk.detached ok detached⟩
  · cases attached : s.isAttached p with
    | true => exact attach_of_attached _ receives attached
    | false =>
      rw [attach_of_detached _ receives attached, lapseArg_two, nextSession_eq number]
      refine congrArg Host.Outcome.next ?_
      rw [if_neg Bool.false_ne_true]
      by_cases refused : h.toNat * 256 + l.toNat ≠ 0 ∧
          (h.toNat * 256 + l.toNat < 50 ∨ 60000 < h.toNat * 256 + l.toNat)
      · simp only [if_pos refused]
      · simp only [if_neg refused, PortRecord.attach, nextSession_eq number]
        rfl
  · cases attached : s.isAttached p with
    | true => exact attach_of_attached _ receives attached
    | false =>
      rw [attach_of_detached _ receives attached, lapseArg_of_length length]
      rfl

/-- Settles O11: DETACH is the teardown behind its argument test, LAPSE behind that of its timer. -/
theorem sessionsEndInTeardown : Obligations.SessionsEndInTeardown := by
  refine ⟨fun p s ready => ready_answers ready rfl, fun p body s ready some_bytes => ?_,
    fun p s attached timer unreached => ?_⟩
  · refine ready_answers ready ?_
    rw [detachEffect, noArg_of_ne some_bytes]
    rfl
  · have reached : s.isAttached p = true ∧
        (s.records.get p).timer.any (fun n => decide (n ≤ 1)) = true ∧ p ∉ s.ticked.ports :=
      ⟨attached, by rw [timer]; rfl, unreached⟩
    simp only [exec, execLapse, if_pos reached, State.reachPort, if_neg unreached]
    rfl

/-- What hearing a packet changes of a port record is its timer. -/
theorem State.heard_record (s : State) (p q : Port) :
    ∃ timer, (s.heard p).records.get q = { s.records.get q with timer := timer } := by
  simp only [State.heard, PerPort.get_set]
  split
  · next same =>
    subst same
    split
    · exact ⟨_, rfl⟩
    · exact ⟨_, rfl⟩
  · exact ⟨_, rfl⟩

theorem State.heard_portStatusBody (s : State) (p : Port) :
    (s.heard p).portStatusBody p = s.portStatusBody p := by
  obtain ⟨timer, record⟩ := s.heard_record p p
  simp only [State.portStatusBody, record]
  rfl

/-- Settles O13: the body is read from the state, in which hearing the packet changed the timer
alone. -/
theorem portStatusReadsOnly : Obligations.PortStatusReadsOnly := by
  refine ⟨fun p s receives => ?_, fun p body s receives some_bytes => ?_,
    fun n => by simp [byteOf], rfl, rfl⟩
  · refine receives_answers receives ?_
    rw [portStatusEffect, State.heard_portStatusBody]
    rfl
  · refine receives_answers receives ?_
    rw [portStatusEffect, noArg_of_ne some_bytes]
    rfl

end

/-! ### Event queues -/

section

theorem EventQueue.next_of_cons {q : EventQueue} {x : Notice} {rest : List Notice}
    (h : q.notices = x :: rest) :
    q.next = { q with notices := rest, missed := 0, attn := !rest.isEmpty } := by
  simp only [EventQueue.next, h, List.tail_cons]

theorem EventQueue.next_of_nil {q : EventQueue} (h : q.notices = []) :
    q.next = { q with missed := 0, attn := false } := by
  simp [EventQueue.next, h]

/-- NEXT_EVENT on a queue that holds a notice. -/
theorem nextEvent_of_cons {p : Port} {s : State} {x : Notice} {rest : List Notice}
    (ready : s.Ready p) (h : (s.queues.get p).notices = x :: rest) :
    exec (.nextEvent p []) s =
      .next
        ((((s.heard p).dropReference x).withQueues
          (s.queues.set p
            { s.queues.get p with notices := rest, missed := 0, attn := !rest.isEmpty })).answer p .ok
          ([x.kindCode, byteOf (s.queues.get p).missed, byteOf rest.length] ++
            x.contents (s.noticePayload x))) := by
  refine ready_answers ready ?_
  have queues : ((s.heard p).dropReference x).queues = s.queues := by cases x <;> rfl
  have removed : (s.heard p).removeNotice p =
      ((s.heard p).dropReference x).withQueues
        (s.queues.set p
          { s.queues.get p with notices := rest, missed := 0, attn := !rest.isEmpty }) := by
    simp only [State.removeNotice, State.heard_queues, h, State.onQueue, queues,
      EventQueue.next_of_cons h]
  have told : (s.heard p).nextEventBody p =
      [x.kindCode, byteOf (s.queues.get p).missed, byteOf rest.length] ++
        x.contents (s.noticePayload x) := by
    simp only [State.nextEventBody, State.heard_queues, h]
    cases x <;> rfl
  rw [nextEventEffect, removed, told]
  rfl

theorem nextEvent_of_nil {p : Port} {s : State} (ready : s.Ready p)
    (h : (s.queues.get p).notices = []) :
    exec (.nextEvent p []) s =
      .next
        (((s.heard p).withQueues
          (s.queues.set p { s.queues.get p with missed := 0, attn := false })).answer p .ok
          [0x00#8, byteOf (s.queues.get p).missed, 0x00#8]) := by
  refine ready_answers ready ?_
  have removed : (s.heard p).removeNotice p =
      (s.heard p).withQueues (s.queues.set p { s.queues.get p with missed := 0, attn := false }) := by
    simp only [State.removeNotice, State.heard_queues, h, State.onQueue, EventQueue.next_of_nil h]
  have told : (s.heard p).nextEventBody p = [0x00#8, byteOf (s.queues.get p).missed, 0x00#8] := by
    simp only [State.nextEventBody, State.heard_queues, h]
  rw [nextEventEffect, removed, told]
  rfl

theorem completion_contents (payload : List Byte) (c : Completion) :
    (Notice.completion c).contents payload =
      [byteOf c.tag, byteOf c.slot, c.kind.code, byteOf c.station, c.status.code,
        byteOf c.attempts,
        (match c.nakReason with
        | some reason => byteOf reason
        | none => 0xFF#8),
        faultByte c.lastFault,
        (match c.stateAfter with
        | some state => state.code
        | none => 0xFF#8)] ++
      match c.replyPayload with
      | some bytes => byteOf bytes.length :: bytes
      | none => [0xFF#8] := by
  obtain ⟨tag, slot, kind, station, status, attempts, nak, fault, after, reply⟩ := c
  cases nak <;> cases after <;> cases reply <;> rfl

theorem ReportNotice.flags_eq (r : ReportNotice) :
    r.flags = byteOf ((if r.noise then 1 else 0) + if r.gap then 2 else 0) := by
  obtain ⟨station, buffer, length, noise, gap⟩ := r
  cases noise <;> cases gap <;> simp [ReportNotice.flags, byteOf]

/-- Settles O14: a queue holds an oldest notice or none; the codes are the tables'. -/
theorem nextEventTakesTheOldest : Obligations.NextEventTakesTheOldest := by
  refine ⟨fun p x rest s ready cons => ?_, fun p s ready empty => nextEvent_of_nil ready empty,
    fun p body s ready some_bytes => ?_, fun payload c => ⟨rfl, completion_contents payload c⟩,
    fun payload t d a miss visits r old new line cause => ?_, rfl, rfl, rfl, rfl, rfl, rfl⟩
  · rw [nextEvent_of_cons ready cons]
    cases x with
    | report r =>
      simp only [State.dropReference, State.noticePayload, State.bufferPayload, State.heard_buffers]
      cases s.buffers.getD r.buffer none <;> rfl
    | _ => rfl
  · refine ready_answers ready ?_
    rw [nextEventEffect, noArg_of_ne some_bytes]
    rfl
  · refine ⟨rfl, rfl, rfl, rfl, rfl, ?_, rfl, ?_, rfl, rfl, rfl, rfl⟩
    · rw [← ReportNotice.flags_eq]
      rfl
    · cases new <;> rfl

end

end Sys2Proof.Machine


/-! PROOF. The directory commands: the address check, ENROLL, SET_STATION, DISMISS, the subscriptions and
STATION_STATUS (chapter 1). -/

namespace Sys2Proof.Machine

/-! ### The address check -/

section
variable {i : Instr} {p : Port} {s : State} {e : StationEntry} {body : List Byte} {a : Nat}

theorem stationArg_of_out {x : Byte} (h : x.toNat = 0 ∨ 126 < x.toNat) : stationArg [x] = none :=
  if_neg (by rw [inRange_eq_true_iff]; omega)

theorem stationArg_of_in {x : Byte} (low : 1 ≤ x.toNat) (high : x.toNat ≤ 126) :
    stationArg [x] = some x.toNat :=
  if_pos ((inRange_eq_true_iff ..).2 ⟨low, high⟩)

theorem stationArg_of_length (h : body.length ≠ 1) : stationArg body = none := by
  match body, h with
  | [], _ => rfl
  | [_], h => exact absurd rfl h
  | _ :: _ :: _, _ => rfl

theorem onStation_of_bad (h : stationArg body = none) (f : StationEntry → Effect) (s : State) :
    onStation body f s = (s, reply .badArgument) := by
  simp only [onStation, h]

theorem onStation_of_unknown (arg : stationArg body = some a) (h : s.station? a = none)
    (f : StationEntry → Effect) : onStation body f s = (s, reply .unknownStation) := by
  simp only [onStation, arg, h]

theorem onStation_of_known (arg : stationArg body = some a) (h : s.station? a = some e)
    (f : StationEntry → Effect) : onStation body f s = f e s := by
  simp only [onStation, arg, h]

/-- The four commands that take a station's address alone have their effect on its entry. -/
theorem exec_onStation
    (mem : i ∈ [.dismiss p body, .subscribe p body, .unsubscribe p body, .stationStatus p body]) :
    ∃ f, ∀ s, exec i s = .next (s.takePacket p (attachedOnly p (onStation body f))) := by
  simp only [List.mem_cons, List.not_mem_nil, or_false] at mem
  rcases mem with rfl | rfl | rfl | rfl
  · exact ⟨_, fun _ => rfl⟩
  · exact ⟨_, fun _ => rfl⟩
  · exact ⟨_, fun _ => rfl⟩
  · exact ⟨_, fun _ => rfl⟩

theorem setStationArgs_of_out {x : Byte} (v : Byte) (h : x.toNat = 0 ∨ 126 < x.toNat) :
    setStationArgs [x, v] = none :=
  if_neg (by rw [inRange_eq_true_iff]; omega)

theorem setStationArgs_of_in {x : Byte} (v : Byte) (low : 1 ≤ x.toNat) (high : x.toNat ≤ 126) :
    setStationArgs [x, v] = some (x.toNat, v) :=
  if_pos ((inRange_eq_true_iff ..).2 ⟨low, high⟩)

theorem setStationArgs_of_length (h : body.length ≠ 2) : setStationArgs body = none := by
  match body, h with
  | [], _ => rfl
  | [_], _ => rfl
  | [_, _], h => exact absurd rfl h
  | _ :: _ :: _ :: _, _ => rfl

theorem setStation_of_bad (ready : s.Ready p) (h : setStationArgs body = none) :
    exec (.setStation p body) s = .next ((s.heard p).answer p .badArgument []) := by
  refine ready_answers ready ?_
  simp only [setStationEffect, h]
  rfl

/-- Settles O15: the two forms of the address check, SET_STATION's and that of the other four. -/
theorem directoryChecksTheAddress : Obligations.DirectoryChecksTheAddress := by
  refine ⟨fun p x v s i ready mem => ?_, fun p body s i ready length mem => ?_⟩
  · have kinds : i = .setStation p [x, v] ∨
        i ∈ [.dismiss p [x], .subscribe p [x], .unsubscribe p [x], .stationStatus p [x]] := by
      simp only [List.mem_cons, List.not_mem_nil, or_false] at mem ⊢
      rcases mem with h | h | h | h | h <;> simp [h]
    rcases kinds with rfl | kinds
    · refine ⟨fun out => setStation_of_bad ready (setStationArgs_of_out v out),
        fun low high absent => ready_answers ready ?_⟩
      have unknown := (State.station?_none s x.toNat).2 absent
      simp only [setStationEffect, setStationArgs_of_in v low high, State.heard_station?, unknown]
      rfl
    · obtain ⟨f, eq⟩ := exec_onStation kinds
      refine ⟨fun out => ?_, fun low high absent => ?_⟩
      · rw [eq]
        exact ready_answers ready (onStation_of_bad (stationArg_of_out out) f _)
      · rw [eq]
        exact ready_answers ready (onStation_of_unknown (s := s.heard p) (stationArg_of_in low high)
          ((State.station?_none s x.toNat).2 absent) f)
  · obtain ⟨f, eq⟩ := exec_onStation mem
    rw [eq]
    exact ready_answers ready (onStation_of_bad (stationArg_of_length length) f _)

end

/-! ### ENROLL and SET_STATION -/

section

theorem ofFlag_eq (v : Byte) :
    ofFlag v = if 1 < v.toNat then none else some (decide (v.toNat = 1)) := by
  rcases ofFlag_cases v with ⟨h, eq⟩ | ⟨h, eq⟩ | ⟨h, eq⟩
  · rw [eq, if_pos h]
  · rw [eq, if_neg (by omega), h]
    rfl
  · rw [eq, if_neg (by omega), h]
    rfl

theorem enrollArgs_two (x v : Byte) :
    enrollArgs [x, v] =
      if x.toNat = 0 ∨ 126 < x.toNat ∨ 1 < v.toNat then none
      else some (x.toNat, decide (v.toNat = 1)) := by
  rw [enrollArgs, ofFlag_eq]
  by_cases range : inRange 1 126 x.toNat = true
  · have bounds := (inRange_eq_true_iff ..).1 range
    rw [if_pos range]
    by_cases flag : 1 < v.toNat
    · rw [if_pos flag, if_pos (.inr (.inr flag))]
      rfl
    · rw [if_neg flag, if_neg (by omega)]
      rfl
  · have bounds := mt (inRange_eq_true_iff ..).2 range
    rw [if_neg range, if_pos (by omega)]

theorem enrollArgs_of_length {body : List Byte} (h : body.length ≠ 2) : enrollArgs body = none := by
  match body, h with
  | [], _ => rfl
  | [_], _ => rfl
  | [_, _], h => exact absurd rfl h
  | _ :: _ :: _ :: _, _ => rfl

theorem enroll_of_bad {p : Port} {s : State} {body : List Byte} (ready : s.Ready p)
    (h : enrollArgs body = none) :
    exec (.enroll p body) s = .next ((s.heard p).answer p .badArgument []) := by
  refine ready_answers ready ?_
  simp only [enrollEffect, h]
  rfl

theorem State.station?_isSome_iff (s : State) (a : Nat) :
    (s.station? a).isSome = true ↔ ∃ e ∈ s.directory, e.address = a := by
  rw [Option.isSome_iff_ne_none, Ne, State.station?_none]
  push Not
  rfl

theorem State.selectIf_decide (s : State) (b : Prop) [Decidable b] :
    s.selectIf (decide b) = if b then s.select else s := by
  simp only [State.selectIf, decide_eq_true_eq]

/-- Settles O16: the tests one by one, and the entry that passes them. -/
theorem enrollCreatesAnEntry : Obligations.EnrollCreatesAnEntry := by
  refine ⟨fun p x v s ready => ?_, fun p body s ready length =>
    enroll_of_bad ready (enrollArgs_of_length length)⟩
  by_cases bad : x.toNat = 0 ∨ 126 < x.toNat ∨ 1 < v.toNat
  · rw [if_pos bad]
    exact enroll_of_bad ready (by rw [enrollArgs_two, if_pos bad])
  · rw [if_neg bad]
    have args : enrollArgs [x, v] = some (x.toNat, decide (v.toNat = 1)) := by
      rw [enrollArgs_two, if_neg bad]
    by_cases enrolled : ∃ e ∈ s.directory, e.address = x.toNat
    · rw [if_pos enrolled]
      refine ready_answers ready ?_
      simp only [enrollEffect, args, State.heard_station?,
        (State.station?_isSome_iff s x.toNat).2 enrolled, if_true]
      rfl
    · rw [if_neg enrolled]
      have absent := mt (State.station?_isSome_iff s x.toNat).1 enrolled
      by_cases full : 64 ≤ s.directory.length
      · rw [if_pos full]
        refine ready_answers ready ?_
        simp only [enrollEffect, args]
        exact (if_neg absent).trans (if_pos full)
      · rw [if_neg full]
        refine ready_answers ready ?_
        simp only [enrollEffect, args, State.selectIf_decide]
        exact (if_neg absent).trans (if_neg full)

/-- Settles O17: the address check and the entry stand; the value byte is a flag or none. -/
theorem setStationSetsPolling : Obligations.SetStationSetsPolling := by
  refine ⟨fun p x v e s ready low high known => ?_, fun p body s ready length =>
    setStation_of_bad ready (setStationArgs_of_length length)⟩
  by_cases bad : 1 < v.toNat
  · rw [if_pos bad]
    refine ready_answers ready ?_
    simp only [setStationEffect, setStationArgs_of_in v low high, State.heard_station?, known,
      ofFlag_eq, if_pos bad]
    rfl
  · rw [if_neg bad]
    refine ready_answers ready ?_
    simp only [setStationEffect, setStationArgs_of_in v low high, State.heard_station?, known,
      ofFlag_eq, if_neg bad, State.selectIf_decide]
    rfl

end

/-! ### DISMISS -/

section

theorem Slot.targets_iff (x : Slot) (a : Nat) :
    x.targets a = true ↔ ∃ r ∈ x.request?, r.kind ≠ RequestKind.broadcast ∧ r.station = a := by
  simp [Slot.targets, Option.any_eq_true]

theorem State.inUse_iff (s : State) (a : Nat) :
    s.inUse a = true ↔
      (∃ y ∈ s.slots, ∃ r ∈ y.request?, r.kind ≠ RequestKind.broadcast ∧ r.station = a) ∨
        (∃ c ∈ s.claims, c.target = a) ∨ (∃ t ∈ s.transaction, t.station = a) := by
  have claimed : (s.claim? a).isSome = true ↔ ∃ c ∈ s.claims, c.target = a := by
    rw [Option.isSome_iff_ne_none, Ne, State.claim?_none]
    push Not
    rfl
  simp only [State.inUse, Bool.or_eq_true, claimed, List.any_eq_true, Slot.targets_iff,
    Option.any_eq_true, beq_iff_eq, or_assoc]
  rfl

theorem tableDrop_eq_filter {α : Type} (key : α → Nat) (k : Nat) (l : List α) :
    tableDrop key k l = l.filter (fun x => decide (key x ≠ k)) :=
  List.filter_congr fun x _ => by rw [bne, decide_not, beq_eq_decide]

/-- Settles O18: the test of use, and the notices that go out before the entry does. -/
theorem dismissRemovesAnEntry : Obligations.DismissRemovesAnEntry := by
  intro p x e s ready low high known
  obtain ⟨-, address⟩ := State.station?_some known
  have onEntry := onStation_of_known (s := s.heard p) (stationArg_of_in low high) known
  rw [← address]
  by_cases used : s.inUse e.address = true
  · rw [if_pos ((State.inUse_iff s e.address).1 used)]
    refine ready_answers ready ((onEntry _).trans ?_)
    exact if_pos used
  · rw [if_neg (mt (State.inUse_iff s e.address).2 used)]
    refine ready_answers ready ((onEntry _).trans ?_)
    have queues := State.offerEach_queues_congr (e.subscribers.map Subscription.port)
      (.stationState e.address e.state .removed e.miss) (s.heard_queues p) (s.heard_isAttached p)
    refine (if_neg used).trans (Prod.ext ?_ rfl)
    dsimp only
    rw [← queues, ← tableDrop_eq_filter, State.postStationState, State.offerEach_eq]
    rfl

end

/-! ### Subscriptions -/

section

/-- The port order of subscriptions (R7). -/
abbrev InPortOrder (subs : List Subscription) : Prop :=
  subs.Pairwise (fun x y => x.port.index < y.port.index)

/-- A set in port order is what its ports, taken in port order, find in it. -/
theorem filterMap_find_port {ps : List Port} {subs : List Subscription}
    (ports : ps.Pairwise (fun x y => x.index < y.index)) (order : InPortOrder subs)
    (mem : ∀ x ∈ subs, x.port ∈ ps) :
    ps.filterMap (fun q => subs.find? (fun y => decide (y.port = q))) = subs := by
  induction ps generalizing subs with
  | nil =>
    match subs, mem with
    | [], _ => rfl
    | x :: _, mem => cases mem x (List.mem_cons_self ..)
  | cons q ps ih =>
    obtain ⟨first, ports⟩ := List.pairwise_cons.1 ports
    match subs, order, mem with
    | [], _, _ => simp
    | x :: rest, order, mem =>
      obtain ⟨before, restOrder⟩ := List.pairwise_cons.1 order
      by_cases same : x.port = q
      · have skip : ∀ q' ∈ ps, (x :: rest).find? (fun y => decide (y.port = q')) =
            rest.find? (fun y => decide (y.port = q')) := fun q' hq' => by
          have other : x.port ≠ q' := fun h => by
            have := first q' hq'
            rw [← same, h] at this
            omega
          simp [other]
        have inside : ∀ y ∈ rest, y.port ∈ ps := fun y hy => by
          rcases List.mem_cons.1 (mem y (List.mem_cons_of_mem _ hy)) with h | h
          · have := before y hy
            rw [h, same] at this
            omega
          · exact h
        have here : (x :: rest).find? (fun y => decide (y.port = q)) = some x := by simp [same]
        simp only [List.filterMap_cons, here]
        rw [List.filterMap_congr skip, ih ports restOrder inside]
      · have above : ∀ y ∈ x :: rest, q.index < y.port.index := fun y hy => by
          have here : q.index < x.port.index :=
            first _ ((List.mem_cons.1 (mem x (List.mem_cons_self ..))).resolve_left same)
          rcases List.mem_cons.1 hy with rfl | hy
          · exact here
          · exact here.trans (before y hy)
        have inside : ∀ y ∈ x :: rest, y.port ∈ ps := fun y hy =>
          (List.mem_cons.1 (mem y hy)).resolve_left fun h => by
            have := above y hy
            rw [h] at this
            omega
        have absent : (x :: rest).find? (fun y => decide (y.port = q)) = none :=
          List.find?_eq_none.2 fun y hy => by
            have := above y hy
            simp only [decide_eq_true_eq]
            rintro rfl
            omega
        simp only [List.filterMap_cons, absent]
        exact ih ports order inside

/-- What the ports find in a set to which a record has come. -/
theorem find_addSubscription {p : Port} {subs : List Subscription}
    (absent : ¬ ∃ y ∈ subs, y.port = p) (q : Port) :
    (addSubscription p subs).find? (fun y => decide (y.port = q)) =
      if q = p then some ⟨p, false⟩ else subs.find? (fun y => decide (y.port = q)) := by
  have any : subs.any (fun x => decide (x.port = p)) = false := by
    simpa using absent
  have parts := List.takeWhile_append_dropWhile
    (p := fun x : Subscription => decide (x.port.index < p.index)) (l := subs)
  simp only [addSubscription, any, Bool.false_eq_true, if_false, List.find?_append, List.find?_cons]
  by_cases same : q = p
  · subst same
    have front : (subs.takeWhile (fun x => decide (x.port.index < q.index))).find?
        (fun y => decide (y.port = q)) = none :=
      List.find?_eq_none.2 fun y hy => by
        simpa using fun h => absent ⟨y, (List.takeWhile_sublist _).subset hy, h⟩
    simp [front]
  · rw [if_neg same]
    conv_rhs => rw [← parts, List.find?_append]
    simp [Ne.symm same]

theorem addSubscription_eq {p : Port} {subs : List Subscription} (order : InPortOrder subs) :
    addSubscription p subs =
      if ∃ y ∈ subs, y.port = p then subs
      else
        [Port.a, Port.b, Port.c, Port.d].filterMap (fun q =>
          if q = p then some { port := p, gap := false }
          else subs.find? (fun y => decide (y.port = q))) := by
  by_cases present : ∃ y ∈ subs, y.port = p
  · rw [if_pos present]
    exact if_pos (by simpa using present)
  · rw [if_neg present, ← filterMap_find_port (ps := [.a, .b, .c, .d]) (by decide)
      (addSubscription_order p order) (fun x _ => by cases x.port <;> decide)]
    exact List.filterMap_congr fun q _ => find_addSubscription present q

/-- Settles O19: an enrolled address passes the check, and the entry's set is in port order. -/
theorem subscriptionsFollowTheirCommands : Obligations.SubscriptionsFollowTheirCommands := by
  refine ⟨fun p x e s ready ok known => ?_, fun p x e s ready ok known => ?_⟩
  · obtain ⟨mem, -⟩ := State.station?_some known
    have arg : stationArg [x] = some x.toNat := if_pos (ok.inRange known)
    refine ready_answers ready ?_
    rw [subscribeEffect, onStation_of_known (s := s.heard p) arg known,
      addSubscription_eq (ok.2.2 e mem).2.2.2.1]
    rfl
  · have arg : stationArg [x] = some x.toNat := if_pos (ok.inRange known)
    refine ready_answers ready ?_
    rw [unsubscribeEffect, onStation_of_known (s := s.heard p) arg known]
    rfl

/-- Settles O20: the body is the entry's alone. -/
theorem stationStatusReadsOnly : Obligations.StationStatusReadsOnly :=
  ⟨rfl, rfl, rfl, fun _ _ _ s ready low high known =>
    ready_answers ready (onStation_of_known (s := s.heard _) (stationArg_of_in low high) known _)⟩

end

end Sys2Proof.Machine


/-! PROOF. The claim commands, the hand-over of a claim, and its expiry (chapter 2). -/

namespace Sys2Proof.Machine

/-! ### What a command leaves, branch by branch -/

section
variable {s t u : State} {p : Port} {e : Effect} {out x y : State × Response}

/-- The state that an effect leaves, with the response it prepares. -/
def prepared (p : Port) (out : State × Response) : State := out.1.answer p out.2.status out.2.body

theorem prepared_if {b c : Prop} [Decidable b] [Decidable c] (same : b ↔ c)
    (yes : b → prepared p x = t) (no : ¬ b → prepared p y = u) :
    prepared p (if b then x else y) = if c then t else u := by
  by_cases h : b
  · rw [if_pos h, if_pos (same.1 h), yes h]
  · rw [if_neg h, if_neg (mt same.2 h), no h]

theorem ready_prepares (h : s.Ready p) (effect : prepared p (e (s.heard p)) = t) :
    Host.Outcome.next (φ := Fault) (ρ := Refusal) (s.takePacket p (attachedOnly p e)) = .next t := by
  rw [State.takePacket_of_ready e h, ← effect]
  rfl

theorem EventQueue.not_grants_iff (q : EventQueue) (n : Nat) :
    (!q.grants n) = true ↔ 16 < q.notices.length + q.reserved + n := by
  rw [Bool.not_eq_true', EventQueue.grants, decide_eq_false_iff_not]
  exact Nat.not_le

end

/-! ### CLAIM -/

section
variable {t h l w : Byte} {body : List Byte}

/-- The bytes of a CLAIM are refused (R24). -/
abbrev BadClaim (t h l w : Byte) : Prop :=
  126 < t.toNat ∨ h.toNat * 256 + l.toNat < 1 ∨ 60000 < h.toNat * 256 + l.toNat ∨ 1 < w.toNat

theorem claimArgs_of_bad (bad : BadClaim t h l w) : claimArgs [t, h, l, w] = none := by
  have word : ofWord h l = h.toNat * 256 + l.toNat := rfl
  rw [claimArgs, ofFlag_eq]
  by_cases range : (inRange 0 126 t.toNat && inRange 1 60000 (ofWord h l)) = true
  · rw [if_pos range, if_pos, Option.map_none]
    rw [Bool.and_eq_true, inRange_eq_true_iff, inRange_eq_true_iff] at range
    simp only [BadClaim] at bad
    omega
  · rw [if_neg range]

theorem claimArgs_of_good (good : ¬ BadClaim t h l w) :
    claimArgs [t, h, l, w] = some (t.toNat, h.toNat * 256 + l.toNat, decide (w.toNat = 1)) := by
  have word : ofWord h l = h.toNat * 256 + l.toNat := rfl
  simp only [BadClaim] at good
  have range : (inRange 0 126 t.toNat && inRange 1 60000 (ofWord h l)) = true := by
    rw [Bool.and_eq_true, inRange_eq_true_iff, inRange_eq_true_iff]
    omega
  rw [claimArgs, ofFlag_eq, if_pos range, if_neg (by omega)]
  rfl

theorem claimArgs_of_length (length : body.length ≠ 4) : claimArgs body = none := by
  match body, length with
  | [], _ => rfl
  | [_], _ => rfl
  | [_, _], _ => rfl
  | [_, _, _], _ => rfl
  | [_, _, _, _], length => exact absurd rfl length
  | _ :: _ :: _ :: _ :: _ :: _, _ => rfl

theorem claim_of_bad {p : Port} {s : State} (ready : s.Ready p) (bad : claimArgs body = none) :
    exec (.claim p body) s = .next ((s.heard p).answer p .badArgument []) := by
  refine ready_answers ready ?_
  simp only [claimEffect, bad]
  rfl

/-- The decision on a target without a record (R25). -/
theorem grantClaim_eq (p : Port) (target d : Nat) (s : State) :
    grantClaim p target d s =
      if 16 ≤ s.claims.length then (s, reply .claimTableFull)
      else if 16 < (s.queues.get p).notices.length + (s.queues.get p).reserved + 1 then
        (s, reply .noRoom)
      else
        ({ s with
          claims :=
            tablePut ClaimRecord.target
              { target := target, holder := p, remaining := d, waiters := [] } s.claims
          ticked := s.claimNoted target
          queues :=
            s.queues.set p { s.queues.get p with reserved := (s.queues.get p).reserved + 1 } },
          reply .ok) := by
  refine ite_congr rfl (fun _ => rfl) (fun _ => ?_)
  refine ite_congr (propext (EventQueue.not_grants_iff ..)) (fun _ => rfl) (fun _ => ?_)
  rw [State.claimSet_eq]
  rfl

/-- The decision on a target that another port holds (R26). -/
theorem waitForClaim_eq (p : Port) (c : ClaimRecord) (d : Nat) (wait : Bool) (s : State) :
    waitForClaim p c d wait s =
      if wait = false ∨ 3 ≤ c.waiters.length then (s, reply .claimed)
      else if 16 < (s.queues.get p).notices.length + (s.queues.get p).reserved + 2 then
        (s, reply .noRoom)
      else
        ({ s with
          claims :=
            tablePut ClaimRecord.target { c with waiters := c.waiters ++ [Waiter.mk p d] } s.claims
          queues :=
            s.queues.set p { s.queues.get p with reserved := (s.queues.get p).reserved + 2 } },
          ⟨.queued, [byteOf (c.waiters.length + 1)]⟩) := by
  have room : (if !(s.queues.get p).grants 2 then (s, reply .noRoom)
      else ((s.putClaim { c with waiters := c.waiters ++ [⟨p, d⟩] }).onQueue p (·.take 2),
        ⟨.queued, [byteOf (c.waiters.length + 1)]⟩)) =
      if 16 < (s.queues.get p).notices.length + (s.queues.get p).reserved + 2 then
        (s, reply .noRoom)
      else
        ((s.putClaim { c with waiters := c.waiters ++ [⟨p, d⟩] }).onQueue p (·.take 2),
          ⟨.queued, [byteOf (c.waiters.length + 1)]⟩) :=
    ite_congr (propext (EventQueue.not_grants_iff ..)) (fun _ => rfl) (fun _ => rfl)
  cases wait with
  | false => rfl
  | true =>
    refine Eq.trans (if_neg Bool.false_ne_true) (ite_congr ?_ (fun _ => rfl) (fun _ => room))
    simp [waitCapacity]

/-- Settles O22: the tests in their order, then the decision on a target with a record or without. -/
theorem claimIsDecided : Obligations.ClaimIsDecided := by
  refine ⟨fun p t h l w s ready => ?_, fun p body s ready length =>
    claim_of_bad ready (claimArgs_of_length length)⟩
  by_cases bad : BadClaim t h l w
  · rw [if_pos bad]
    exact claim_of_bad ready (claimArgs_of_bad bad)
  · rw [if_neg bad]
    refine ready_prepares ready ?_
    simp only [claimEffect, claimArgs_of_good bad, State.heard_claim?]
    refine prepared_if (and_congr_right fun _ => State.station?_none s _) (fun _ => rfl) fun _ => ?_
    cases s.claim? t.toNat with
    | none =>
      dsimp only
      rw [grantClaim_eq]
      exact prepared_if .rfl (fun _ => rfl) fun _ => prepared_if .rfl (fun _ => rfl) fun _ => rfl
    | some c =>
      dsimp only
      refine prepared_if .rfl (fun _ => rfl) fun _ => ?_
      refine prepared_if (by simp) (fun _ => rfl) fun _ => ?_
      rw [waitForClaim_eq]
      refine prepared_if (or_congr_left ?_) (fun _ => rfl) fun _ =>
        prepared_if .rfl (fun _ => rfl) fun _ => rfl
      simp only [BadClaim] at bad
      rw [decide_eq_false_iff_not]
      omega

end

/-! ### RENEW, RELEASE and CLAIM_STATUS -/

section
variable {t h l : Byte} {body : List Byte} {p : Port} {s : State}

/-- The bytes of a RENEW are refused (R29). -/
abbrev BadRenewal (t h l : Byte) : Prop :=
  126 < t.toNat ∨ h.toNat * 256 + l.toNat < 1 ∨ 60000 < h.toNat * 256 + l.toNat

theorem renewArgs_eq (t h l : Byte) :
    renewArgs [t, h, l] =
      if BadRenewal t h l then none else some (t.toNat, h.toNat * 256 + l.toNat) := by
  have word : ofWord h l = h.toNat * 256 + l.toNat := rfl
  have range : (inRange 0 126 t.toNat && inRange 1 60000 (ofWord h l)) = true ↔
      ¬ BadRenewal t h l := by
    rw [Bool.and_eq_true, inRange_eq_true_iff, inRange_eq_true_iff, BadRenewal]
    omega
  by_cases bad : BadRenewal t h l
  · rw [if_pos bad]
    exact if_neg fun good => range.1 good bad
  · rw [if_neg bad]
    exact if_pos (range.2 bad)

theorem renewArgs_of_length (length : body.length ≠ 3) : renewArgs body = none := by
  match body, length with
  | [], _ => rfl
  | [_], _ => rfl
  | [_, _], _ => rfl
  | [_, _, _], length => exact absurd rfl length
  | _ :: _ :: _ :: _ :: _, _ => rfl

theorem renew_of_bad (ready : s.Ready p) (bad : renewArgs body = none) :
    exec (.renew p body) s = .next ((s.heard p).answer p .badArgument []) := by
  refine ready_answers ready ?_
  simp only [renewEffect, bad]
  rfl

/-- Settles O23: the record found, its holder tested, and the time set. -/
theorem renewSetsTheTime : Obligations.RenewSetsTheTime := by
  refine ⟨fun p t h l s ready => ?_, fun p body s ready length =>
    renew_of_bad ready (renewArgs_of_length length)⟩
  by_cases bad : BadRenewal t h l
  · rw [if_pos bad]
    exact renew_of_bad ready (by rw [renewArgs_eq, if_pos bad])
  · rw [if_neg bad]
    have args : renewArgs [t, h, l] = some (t.toNat, h.toNat * 256 + l.toNat) := by
      rw [renewArgs_eq, if_neg bad]
    have one : h.toNat * 256 + l.toNat ≤ 1 ↔ h.toNat * 256 + l.toNat = 1 := by
      simp only [BadRenewal] at bad
      omega
    refine ready_prepares ready ?_
    simp only [renewEffect, args]
    cases found : s.claim? t.toNat with
    | none =>
      rw [State.heldBy?_of_none (s := s.heard p) p found]
      rfl
    | some c =>
      obtain ⟨-, target⟩ := State.claim?_some found
      rw [State.heldBy?_of_some (s := s.heard p) p found]
      dsimp only
      by_cases holder : c.holder = p
      · rw [if_pos holder, if_pos holder]
        simp only [State.renewClaim_eq, one, target]
        rfl
      · rw [if_neg holder, if_neg holder]
        rfl

theorem release_of_bad (ready : s.Ready p) (bad : targetArg body = none) :
    exec (.release p body) s = .next ((s.heard p).answer p .badArgument []) := by
  refine ready_answers ready ?_
  simp only [releaseEffect, bad]
  rfl

/-- Settles O24: the record found, its holder tested, and the holder gone. -/
theorem releaseGivesUpTheClaim : Obligations.ReleaseGivesUpTheClaim := by
  refine ⟨fun p t s ready => ?_, fun p body s ready length =>
    release_of_bad ready (targetArg_of_length length)⟩
  obtain ⟨out, arg⟩ | ⟨inside, arg⟩ := targetArg_cases t
  · rw [if_pos out]
    exact release_of_bad ready arg
  · rw [if_neg (Nat.not_lt.2 inside)]
    refine ready_prepares ready ?_
    simp only [releaseEffect, arg]
    cases found : s.claim? t.toNat with
    | none =>
      rw [State.heldBy?_of_none (s := s.heard p) p found]
      rfl
    | some c =>
      rw [State.heldBy?_of_some (s := s.heard p) p found]
      dsimp only
      by_cases holder : c.holder = p
      · rw [if_pos holder, if_pos holder]
        rfl
      · rw [if_neg holder, if_neg holder]
        rfl

theorem claimStatus_of_bad (ready : s.Ready p) (bad : targetArg body = none) :
    exec (.claimStatus p body) s = .next ((s.heard p).answer p .badArgument []) := by
  refine ready_answers ready ?_
  simp only [claimStatusEffect, bad]
  rfl

/-- Settles O25: the body is the record's, or that of no record. -/
theorem claimStatusReadsOnly : Obligations.ClaimStatusReadsOnly := by
  refine ⟨fun p t s ready => ?_, fun p body s ready length =>
    claimStatus_of_bad ready (targetArg_of_length length)⟩
  obtain ⟨out, arg⟩ | ⟨inside, arg⟩ := targetArg_cases t
  · rw [if_pos out]
    exact claimStatus_of_bad ready arg
  · rw [if_neg (Nat.not_lt.2 inside)]
    refine ready_prepares ready ?_
    simp only [claimStatusEffect, arg, State.heard_claim?]
    cases s.claim? t.toNat <;> rfl

end

/-! ### The hand-over of a claim -/

section
variable {s : State} {target : Nat} {c : ClaimRecord}

theorem holderLeaves_of_alone (found : s.claim? target = some c) (alone : c.waiters = []) :
    s.holderLeaves target =
      ({ s with claims := s.claims.filter (fun x => decide (x.target ≠ target)) }).select := by
  obtain ⟨-, rfl⟩ := State.claim?_some found
  simp only [State.holderLeaves, found, State.passClaim, alone, tableDrop_eq_filter]
  rfl

theorem holderLeaves_of_waiter {w : Waiter} {rest : List Waiter} (found : s.claim? target = some c)
    (waiters : c.waiters = w :: rest) (attached : s.isAttached w.port = true) :
    s.holderLeaves target =
      (({ s with
        claims :=
          tablePut ClaimRecord.target
            { target := target, holder := w.port, remaining := w.duration, waiters := rest } s.claims
        ticked := s.claimNoted target }).converted w.port
          (.claimGranted target w.duration)).select := by
  obtain ⟨-, rfl⟩ := State.claim?_some found
  simp only [State.holderLeaves, found, State.passClaim, waiters, State.claimSet_eq]
  exact congrArg State.select (State.convert_of_attached _ attached)

/-- Settles O26: the record has a first waiter or none; the expiry converts the holder's unit before
that. -/
theorem holdersLeaveTheirClaims : Obligations.HoldersLeaveTheirClaims := by
  refine ⟨fun target c s found => ⟨holderLeaves_of_alone found,
    fun w rest => holderLeaves_of_waiter found⟩, fun target c s found last unreached attached => ?_⟩
  obtain ⟨-, rfl⟩ := State.claim?_some found
  have expires : exec (.claimExpiry c.target) s =
      .next ((s.reachClaim c.target).expire c.target) := by
    simp only [exec, execClaimExpiry, found]
    exact if_pos ⟨by omega, unreached⟩
  have reached : s.reachClaim c.target =
      { s with ticked := { s.ticked with claims := c.target :: s.ticked.claims } } :=
    if_neg unreached
  rw [expires, reached]
  exact congrArg Host.Outcome.next (State.expire_of_attached (c := c) found attached)

end

end Sys2Proof.Machine


/-! PROOF. SUBMIT, CANCEL and the end of a request (chapter 3). -/

namespace Sys2Proof.Machine

section
variable {s : State} {p : Port} {i : Nat} {r : Request} {body : List Byte}

/-! ### SUBMIT -/

theorem duplicateTag_eq (s : State) (i : Nat) :
    s.duplicateTag i =
      ⟨.duplicateTag,
        [byteOf i,
          match s.slots.getD i .free with
          | .active _ _ => 0x02#8
          | _ => 0x01#8]⟩ := by
  simp only [State.duplicateTag, State.slot]
  cases s.slots.getD i .free <;> rfl

/-- Settles O28: the seven tests in their order, each on its own, and then the slot. -/
theorem submitFillsASlot : Obligations.SubmitFillsASlot := by
  intro p body s receives
  by_cases detached : s.isAttached p = false
  · rw [if_pos detached]
    exact congrArg Host.Outcome.next (State.takePacket_of_detached _ receives detached)
  · rw [if_neg detached]
    refine ready_prepares ⟨receives, by simpa using detached⟩ ?_
    simp only [submitEffect]
    cases submitArgs body with
    | none => rfl
    | some r =>
      dsimp only
      have sameTags : (s.heard p).tagged? p r.tag = s.tagged? p r.tag := rfl
      rw [sameTags]
      cases s.tagged? p r.tag with
      | some i =>
        simp only [prepared, duplicateTag_eq]
        rfl
      | none =>
        refine prepared_if (and_congr_right fun _ => State.station?_none s _) (fun _ => rfl) fun _ => ?_
        refine prepared_if .rfl (fun _ => rfl) fun _ => ?_
        refine prepared_if (EventQueue.not_grants_iff ..) (fun _ => rfl) fun _ => ?_
        have sameFree : (s.heard p).freeSlot? = (List.range s.slots.length).find?
            (fun i => decide (s.slots.getD i .free = .free)) := rfl
        rw [sameFree]
        cases (List.range s.slots.length).find? (fun i => decide (s.slots.getD i .free = .free)) with
        | none => rfl
        | some i => rfl

/-! ### The end of a request -/

theorem endRequest_of_owner (owned : s.slots.getD i .free = .pending p r ∨
      s.slots.getD i .free = .active p r) (attached : s.isAttached p = true)
    (status : CompletionStatus) :
    s.endRequest i status =
      ({ s with slots := s.slots.set i .free }).converted p
        (.completion (s.completionOf i r status)) := by
  have ends : s.endRequest i status =
      (s.convert p (.completion (s.completionOf i r status))).setSlot i .free := by
    rcases owned with owned | owned <;> simp only [State.endRequest, State.slot, owned]
  rw [ends, State.convert_of_attached _ attached]
  rfl

/-- Settles O30: a slot with an owner turns into its notice, an orphan into nothing. -/
theorem requestsEndInOneCompletion : Obligations.RequestsEndInOneCompletion := by
  refine fun s i status => ⟨fun p r owned attached => endRequest_of_owner owned attached status,
    fun r orphaned => ?_⟩
  simp only [State.endRequest, State.slot, orphaned]
  rfl

/-! ### CANCEL -/

/-- No slot of the caller carries the tag exactly where none is named (R42). -/
theorem tagged?_none_iff (s : State) (p : Port) (tag : Nat) :
    s.tagged? p tag = none ↔
      ∀ x ∈ s.slots, ∀ r, x.owner? = some p → x.request? = some r → r.tag ≠ tag := by
  simp only [State.tagged?, List.find?_eq_none, List.mem_range, Bool.and_eq_true, decide_eq_true_eq,
    Option.any_eq_true, beq_iff_eq, not_and, not_exists]
  refine ⟨fun h x hx r owner request => ?_, fun h i inside owner r request => ?_⟩
  · obtain ⟨i, inside, rfl⟩ := List.getElem_of_mem hx
    rw [← State.slot_eq_getElem inside] at owner request
    exact h i inside owner r request
  · refine h _ (State.slot_mem fun free => ?_) r owner request
    rw [free] at owner
    cases owner

theorem cancel_of_bad (ready : s.Ready p) (bad : tagArg body = none) :
    exec (.cancel p body) s = .next ((s.heard p).answer p .badArgument []) := by
  refine ready_answers ready ?_
  simp only [cancelEffect, bad]
  rfl

theorem tagArg_of_length (length : body.length ≠ 1) : tagArg body = none := by
  match body, length with
  | [], _ => rfl
  | [_], length => exact absurd rfl length
  | _ :: _ :: _, _ => rfl

/-- CANCEL of a PENDING request takes it off its list and ends it (R53). -/
theorem cancel_pending (attached : s.isAttached p = true) (slot : s.slots.getD i .free = .pending p r) :
    (s.unlist p i).endRequest i .cancelled =
      ({ s with
        lists := s.lists.set p ((s.lists.get p).filter (fun j => j != i))
        slots := s.slots.set i .free }).converted p
          (.completion
            { tag := r.tag, slot := i, kind := r.kind, station := r.station
              status := .cancelled, attempts := r.attempts, nakReason := none
              lastFault := r.lastFault
              stateAfter :=
                if r.kind = RequestKind.broadcast then none
                else (s.station? r.station).map StationEntry.state
              replyPayload := none }) :=
  endRequest_of_owner (s := s.unlist p i) (.inl slot) attached .cancelled

/-- Settles O29: the slot a tag names, by its state. -/
theorem cancelEndsOrMarks : Obligations.CancelEndsOrMarks := by
  refine ⟨fun p tag s ready => ?_, fun p body s ready length =>
    cancel_of_bad ready (tagArg_of_length length),
    fun s p tag => ⟨fun i => State.tagged?_some, tagged?_none_iff s p tag⟩⟩
  refine ready_prepares ready ?_
  have sameTags : (s.heard p).tagged? p tag.toNat = s.tagged? p tag.toNat := rfl
  simp only [cancelEffect, tagArg, sameTags]
  cases named : s.tagged? p tag.toNat with
  | none => rfl
  | some i =>
    obtain ⟨-, owner, -⟩ := State.tagged?_some named
    have sameSlot : (s.heard p).slot i = s.slots.getD i .free := rfl
    dsimp only
    rw [sameSlot]
    cases slot : s.slots.getD i .free with
    | pending q r =>
      obtain rfl : q = p := by
        rw [State.slot, slot] at owner
        exact Option.some.inj owner
      have attached := (State.heard_isAttached s q q).trans ready.2
      dsimp only
      rw [cancel_pending (s := s.heard q) attached slot]
      rfl
    | active q r =>
      have marked : (s.heard p).writeSlot i (fun r => { r with cancelRequested := true }) =
          { s.heard p with
            slots := s.slots.set i (.active q { r with cancelRequested := true }) } := by
        rw [State.writeSlot, sameSlot, slot]
        rfl
      dsimp only
      rw [marked]
      rfl
    | free => rfl
    | orphaned r => rfl

end

end Sys2Proof.Machine


/-! PROOF. The line-control commands and LINE_STATUS (chapters 4 and 6). -/

namespace Sys2Proof.Machine

/-! ### The test of the line claim -/

section
variable {i : Instr} {p : Port} {s t : State} {e : Effect} {body : List Byte}

theorem controls_prepares (h : s.Ready p) (hc : s.Controls p)
    (effect : prepared p (e (s.heard p)) = t) :
    Host.Outcome.next (φ := Fault) (ρ := Refusal) (s.takePacket p (lineControl p e)) = .next t := by
  rw [State.takePacket_of_controls e h hc, ← effect]
  rfl

/-- The effect prepares some answer, and it is not CLAIMED. -/
def NeverClaimed (e : Effect) : Prop := ∀ s, (e s).2.status ≠ .claimed

theorem withoutArgument_neverClaimed (h : NeverClaimed e) (body : List Byte) :
    NeverClaimed (withoutArgument body e) := by
  intro s
  unfold withoutArgument
  split
  · exact h s
  · exact Status.noConfusion

theorem lineStartEffect_neverClaimed : NeverClaimed lineStartEffect := by
  intro s
  unfold lineStartEffect
  split <;> exact Status.noConfusion

theorem lineHaltEffect_neverClaimed : NeverClaimed lineHaltEffect := by
  intro s
  unfold lineHaltEffect
  split
  · split <;> exact Status.noConfusion
  all_goals exact Status.noConfusion

theorem lineCutEffect_neverClaimed : NeverClaimed lineCutEffect := by
  intro s
  unfold lineCutEffect
  dsimp only
  split <;> exact Status.noConfusion

theorem setPollEffect_neverClaimed (p : Port) (body : List Byte) :
    NeverClaimed (setPollEffect p body) := by
  intro s
  unfold setPollEffect
  split <;> exact Status.noConfusion

theorem setLineEffect_neverClaimed (body : List Byte) : NeverClaimed (setLineEffect body) := by
  intro s
  unfold setLineEffect
  split
  · exact Status.noConfusion
  · split <;> exact Status.noConfusion

theorem lineStatusEffect_neverClaimed (body : List Byte) : NeverClaimed (lineStatusEffect body) := by
  intro s
  unfold lineStatusEffect
  split <;> exact Status.noConfusion

theorem claimStatusEffect_neverClaimed (body : List Byte) :
    NeverClaimed (claimStatusEffect body) := by
  intro s
  unfold claimStatusEffect
  split <;> exact Status.noConfusion

/-- The five line-control commands go through the test of the line claim. -/
theorem exec_lineControl
    (mem : i ∈ [.lineStart p body, .lineHalt p body, .lineCut p body, .setPoll p body,
      .setLine p body]) :
    ∃ e, NeverClaimed e ∧ ∀ s, exec i s = .next (s.takePacket p (lineControl p e)) := by
  simp only [List.mem_cons, List.not_mem_nil, or_false] at mem
  rcases mem with rfl | rfl | rfl | rfl | rfl
  · exact ⟨_, withoutArgument_neverClaimed lineStartEffect_neverClaimed body, fun _ => rfl⟩
  · exact ⟨_, withoutArgument_neverClaimed lineHaltEffect_neverClaimed body, fun _ => rfl⟩
  · exact ⟨_, withoutArgument_neverClaimed lineCutEffect_neverClaimed body, fun _ => rfl⟩
  · exact ⟨_, setPollEffect_neverClaimed p body, fun _ => rfl⟩
  · exact ⟨_, setLineEffect_neverClaimed body, fun _ => rfl⟩

/-- The two reading commands do not. -/
theorem exec_reading (mem : i ∈ [.lineStatus p body, .claimStatus p body]) :
    ∃ e, NeverClaimed e ∧ ∀ s, exec i s = .next (s.takePacket p (attachedOnly p e)) := by
  simp only [List.mem_cons, List.not_mem_nil, or_false] at mem
  rcases mem with rfl | rfl
  · exact ⟨_, lineStatusEffect_neverClaimed body, fun _ => rfl⟩
  · exact ⟨_, claimStatusEffect_neverClaimed body, fun _ => rfl⟩

theorem answer_window (s : State) (p : Port) (st : Status) (body : List Byte) :
    (s.answer p st body).windows.get p = .answered ⟨st, body⟩ :=
  PerPort.get_set_self ..

theorem lineControl_bars (ready : s.Ready p) (bars : s.lineClaimBars p = true) (e : Effect) :
    Host.Outcome.next (φ := Fault) (ρ := Refusal) (s.takePacket p (lineControl p e)) =
      .next ((s.heard p).answer p .claimed []) := by
  refine ready_answers ready ?_
  rw [State.heard_lineClaimBars, if_pos bars]
  rfl

/-- Settles O31: the test stands before the effect, and no effect answers CLAIMED. -/
theorem lineClaimBarsLineControl : Obligations.LineClaimBarsLineControl := by
  refine ⟨fun p body c s i ready found other mem => ?_, fun p body s i ready kinds => ?_⟩
  · obtain ⟨e, -, eq⟩ := exec_lineControl mem
    have bars : s.lineClaimBars p = true := eq_true_of_ne_false
      (mt (State.lineClaimBars_eq_false s p).1 fun controls => other (controls c found))
    rw [eq, lineControl_bars ready bars]
  · rcases kinds with ⟨controls, mem⟩ | mem
    · obtain ⟨e, never, eq⟩ := exec_lineControl mem
      exact ⟨_, _, (eq s).trans (controls_answers ready controls rfl), answer_window .., never _⟩
    · obtain ⟨e, never, eq⟩ := exec_reading mem
      exact ⟨_, _, (eq s).trans (ready_answers ready rfl), answer_window .., never _⟩

end

/-! ### LINE_START, LINE_HALT and LINE_CUT -/

section
variable {s : State} {p : Port} {body : List Byte}

theorem withoutArgument_of_ne (h : body ≠ []) (e : Effect) (s : State) :
    withoutArgument body e s = (s, reply .badArgument) := by
  rw [withoutArgument, noArg_of_ne h]
  rfl

theorem lineStartEffect_eq (s : State) :
    lineStartEffect s =
      if s.scheduler.line = .running then (s, reply .ok)
      else ((s.announceLine .running .start).select, reply .ok) := by
  unfold lineStartEffect
  cases s.scheduler.line <;> rfl

/-- Settles O32: the line runs already or it is announced. -/
theorem lineStartRunsTheLine : Obligations.LineStartRunsTheLine := by
  refine ⟨fun p s ready controls => controls_prepares ready controls ?_,
    fun p body s ready controls some_bytes =>
      controls_answers ready controls (withoutArgument_of_ne some_bytes _ _)⟩
  have effect : withoutArgument [] lineStartEffect (s.heard p) = lineStartEffect (s.heard p) := rfl
  rw [effect, lineStartEffect_eq]
  exact prepared_if .rfl (fun _ => rfl) (fun _ => rfl)

theorem lineHaltEffect_eq (s : State) :
    lineHaltEffect s =
      if s.scheduler.line = .running then
        if s.scheduler.busy = .none then (s.announceLine .stopped .halt, reply .ok)
        else (s.withScheduler { s.scheduler with line := .draining }, reply .ok)
      else (s, reply .ok) := by
  unfold lineHaltEffect
  cases s.scheduler.line <;> rfl

theorem gapEnd_of_stopped (gap : s.engine.phase = .gap) (none : s.transaction = none)
    (stopped : s.scheduler.line = .stopped) :
    exec .interFrameGapEnd s = .next (s.withEngine s.engine.enterIdle) := by
  have resumed : (s.withEngine s.engine.enterIdle).resumeTransaction =
      s.withEngine s.engine.enterIdle := by
    simp only [State.resumeTransaction, State.withEngine_transaction, none]
  have taken : (s.withEngine s.engine.enterIdle).lineFree = false := by
    rw [← Bool.not_eq_true, State.lineFree_iff, State.withEngine_scheduler, stopped]
    exact fun h => LineState.noConfusion h.1
  rw [interFrameGapEnd_eq gap, resumed, State.select_of_not_free taken]

/-- Settles O33: the line runs with a transaction or without, or does not run. -/
theorem lineHaltStopsTheLine : Obligations.LineHaltStopsTheLine := by
  refine ⟨fun p s ready controls => controls_prepares ready controls ?_,
    fun p body s ready controls some_bytes =>
      controls_answers ready controls (withoutArgument_of_ne some_bytes _ _),
    fun s => gapEnd_of_stopped⟩
  have effect : withoutArgument [] lineHaltEffect (s.heard p) = lineHaltEffect (s.heard p) := rfl
  rw [effect, lineHaltEffect_eq]
  exact prepared_if .rfl (fun _ => prepared_if .rfl (fun _ => rfl) (fun _ => rfl)) (fun _ => rfl)

theorem Engine.cut_eq (e : Engine) :
    e.cut =
      match e.phase with
      | .sending =>
        { e.inGap with counters := { e.counters with cuts := min 65535 (e.counters.cuts + 1) } }
      | .turnaround | .listening | .receiving => e.inGap
      | .gap | .idle => e := by
  unfold Engine.cut
  cases e.phase <;> rfl

theorem State.cutTransaction_eq (s : State) :
    s.cutTransaction =
      match s.transaction with
      | none => s
      | some t =>
        { (match t.source with
          | .request i => s.endRequest i .cut
          | .visit => s) with
          transaction := none
          scheduler := { s.scheduler with busy := .none } } := by
  unfold State.cutTransaction
  cases s.transaction with
  | none => rfl
  | some t =>
    dsimp only
    cases t.source with
    | request i =>
      have scheduler : (s.endRequest i .cut).scheduler = s.scheduler := by simp
      simp only [State.clearTransaction, scheduler]
      rfl
    | visit => rfl

theorem lineCutEffect_eq (s : State) :
    lineCutEffect s =
      (if s.scheduler.line = .stopped then s.cutTransaction.withEngine s.engine.cut
        else (s.cutTransaction.withEngine s.engine.cut).announceLine .stopped .cut, reply .ok) := by
  have line : (s.cutTransaction.withEngine s.engine.cut).scheduler.line = s.scheduler.line :=
    s.cutTransaction_line
  simp only [lineCutEffect, line]
  cases s.scheduler.line <;> rfl

/-- Settles O34: the transaction, the engine and the line state, in that order. -/
theorem lineCutEndsTheExchange : Obligations.LineCutEndsTheExchange := by
  refine ⟨fun p s ready controls => controls_prepares ready controls ?_,
    fun p body s ready controls some_bytes =>
      controls_answers ready controls (withoutArgument_of_ne some_bytes _ _)⟩
  have effect : withoutArgument [] lineCutEffect (s.heard p) = lineCutEffect (s.heard p) := rfl
  rw [effect, lineCutEffect_eq, State.cutTransaction_eq, Engine.cut_eq]
  rfl

end

/-! ### SET_POLL, LINE_STATUS and SET_LINE -/

section
variable {s : State} {p : Port} {body : List Byte}

theorem setPoll_of_bad (ready : s.Ready p) (controls : s.Controls p) (bad : modeArg body = none) :
    exec (.setPoll p body) s = .next ((s.heard p).answer p .badArgument []) := by
  refine controls_answers ready controls ?_
  simp only [setPollEffect, bad]
  rfl

theorem modeArg_of_length (length : body.length ≠ 1) : modeArg body = none := by
  match body, length with
  | [], _ => rfl
  | [_], length => exact absurd rfl length
  | _ :: _ :: _, _ => rfl

theorem modeArg_eq (m : Byte) :
    modeArg [m] =
      if m.toNat = 0 then some .off
      else if m.toNat = 1 then some .once
      else if m.toNat = 2 then some .continuous
      else none := by
  simp only [modeArg, PollMode.ofCode]
  match m.toNat with
  | 0 => rfl
  | 1 => rfl
  | 2 => rfl
  | n + 3 => simp

/-- Settles O35: the three modes and what is none. -/
theorem setPollSetsTheSweep : Obligations.SetPollSetsTheSweep := by
  refine ⟨fun p m s ready controls => ?_, fun p body s ready controls length =>
    setPoll_of_bad ready controls (modeArg_of_length length)⟩
  have args := modeArg_eq m
  by_cases off : m.toNat = 0
  · rw [if_pos off] at args ⊢
    refine controls_answers ready controls ?_
    simp only [setPollEffect, args]
    rfl
  rw [if_neg off] at args ⊢
  by_cases once : m.toNat = 1
  · rw [if_pos once] at args ⊢
    refine controls_answers ready controls ?_
    simp only [setPollEffect, args]
    rfl
  rw [if_neg once] at args ⊢
  by_cases always : m.toNat = 2
  · rw [if_pos always] at args ⊢
    refine controls_answers ready controls ?_
    simp only [setPollEffect, args]
    rfl
  rw [if_neg always] at args ⊢
  exact setPoll_of_bad ready controls args

theorem lineStatusBody_eq (s : State) :
    s.lineStatusBody =
      [s.scheduler.line.code, s.scheduler.mode.code,
          (match s.scheduler.requester with
          | some q => portByte q
          | none => 0xFF#8),
          byteOf s.scheduler.cursor, byteOf s.scheduler.visits, byteOf s.scheduler.credit,
          portByte s.scheduler.pointer] ++
        (match s.scheduler.busy with
        | .none => [0x00#8, 0x00#8]
        | .request i => [0x01#8, byteOf i]
        | .visit a => [0x02#8, byteOf a]) ++
        wordOf s.engine.counters.framesSent ++ wordOf s.engine.counters.repliesValid ++
        wordOf s.engine.counters.repliesBad ++ wordOf s.engine.counters.strayHeads ++
        wordOf s.engine.counters.unsolicited ++ wordOf s.engine.counters.cuts ++
        s.engine.active.bytes ++
        (match s.engine.staged with
        | some c => 0x01#8 :: c.bytes
        | none => List.replicate 10 0x00#8) := by
  simp only [State.lineStatusBody, LineCounters.bytes, ← List.append_assoc]
  cases s.scheduler.requester <;> cases s.scheduler.busy <;> cases s.engine.staged <;> rfl

/-- Settles O36: the body is read from the Scheduler and the engine, which a packet heard leaves. -/
theorem lineStatusReadsOnly : Obligations.LineStatusReadsOnly := by
  refine ⟨fun p s ready => ready_answers ready ?_, fun p body s ready some_bytes => ?_,
    fun c => rfl, fun n => rfl, rfl, rfl, rfl⟩
  · have body : (s.heard p).lineStatusBody = s.lineStatusBody := rfl
    rw [lineStatusEffect, body, lineStatusBody_eq]
    rfl
  · refine ready_answers ready ?_
    rw [lineStatusEffect, noArg_of_ne some_bytes]
    rfl

theorem LineConfig.inRanges_iff (c : LineConfig) :
    c.inRanges = true ↔
      c.rateCode ≤ 7 ∧ (1 ≤ c.turnaround ∧ c.turnaround ≤ 63) ∧
        (11 ≤ c.replyWindow ∧ c.replyWindow ≤ 4095) ∧
        (11 ≤ c.charGapLimit ∧ c.charGapLimit ≤ 255) ∧
        (11 ≤ c.interFrameGap ∧ c.interFrameGap ≤ 255) ∧ c.retryBudget ≤ 7 ∧
        (2 ≤ c.offlineThreshold ∧ c.offlineThreshold ≤ 15) ∧
        (1 ≤ c.pollShare ∧ c.pollShare ≤ 8) := by
  simp only [LineConfig.inRanges, Bool.and_eq_true, inRange_eq_true_iff, Nat.zero_le, true_and,
    and_assoc]

theorem setLine_of_bad (ready : s.Ready p) (controls : s.Controls p) (bad : configArg body = none) :
    exec (.setLine p body) s = .next ((s.heard p).answer p .badArgument []) := by
  refine controls_answers ready controls ?_
  simp only [setLineEffect, bad]
  rfl

theorem setLine_of_config {c : LineConfig} (ready : s.Ready p) (controls : s.Controls p)
    (arg : configArg body = some c) :
    exec (.setLine p body) s =
      .next
        (if s.engine.phase = .idle then
          ({ s.heard p with
            engine := { s.engine with active := c, staged := none } }).answer p .ok []
        else
          ({ s.heard p with engine := { s.engine with staged := some c } }).answer p .staged []) := by
  refine controls_prepares ready controls ?_
  simp only [setLineEffect, arg]
  exact prepared_if .rfl (fun _ => rfl) (fun _ => rfl)

theorem configArg_of_length (length : body.length ≠ 9) : configArg body = none := by
  match body, length with
  | [], _ => rfl
  | [_], _ => rfl
  | [_, _], _ => rfl
  | [_, _, _], _ => rfl
  | [_, _, _, _], _ => rfl
  | [_, _, _, _, _], _ => rfl
  | [_, _, _, _, _, _], _ => rfl
  | [_, _, _, _, _, _, _], _ => rfl
  | [_, _, _, _, _, _, _, _], _ => rfl
  | [_, _, _, _, _, _, _, _, _], length => exact absurd rfl length
  | _ :: _ :: _ :: _ :: _ :: _ :: _ :: _ :: _ :: _ :: _, _ => rfl

/-- Settles O37: a byte's own bound stands for the upper ones of the two gaps. -/
theorem setLineAppliesOrStages : Obligations.SetLineAppliesOrStages := by
  refine ⟨fun p rate turn wh wl limit gap retry threshold share s ready controls => ?_,
    fun p body s ready controls length =>
      setLine_of_bad ready controls (configArg_of_length length)⟩
  by_cases good : rate.toNat ≤ 7 ∧ (1 ≤ turn.toNat ∧ turn.toNat ≤ 63) ∧
      (11 ≤ wh.toNat * 256 + wl.toNat ∧ wh.toNat * 256 + wl.toNat ≤ 4095) ∧
      11 ≤ limit.toNat ∧ 11 ≤ gap.toNat ∧ retry.toNat ≤ 7 ∧
      (2 ≤ threshold.toNat ∧ threshold.toNat ≤ 15) ∧ (1 ≤ share.toNat ∧ share.toNat ≤ 8)
  · rw [if_pos good]
    refine setLine_of_config ready controls (if_pos ((LineConfig.inRanges_iff _).2 ?_))
    have := limit.isLt
    have := gap.isLt
    dsimp only [ofWord]
    omega
  · rw [if_neg good]
    refine setLine_of_bad ready controls (if_neg (mt (LineConfig.inRanges_iff _).1 ?_))
    dsimp only [ofWord]
    omega

end

end Sys2Proof.Machine


/-! PROOF. The judgement of each result, and of the replies of a station that keeps its obligations
(R85 to R91, R173, R174). -/

namespace Sys2Proof.Machine

/-! ### The table of judgements -/

section

theorem judge_send (sBit : Bool) (limit : Nat) (r : Reply) :
    judge .send sBit limit (.frame r) =
      if r.kind = .ack ∧ r.sBit = sBit then ⟨.success, .validReply r.noise true, none, none⟩
      else if r.kind = .nak then ⟨.refused r.reason, .validReply r.noise false, none, none⟩
      else ⟨.failure .format, .failedAttempt, none, none⟩ := by
  obtain ⟨kind, bit, reason, payload, noise⟩ := r
  cases kind <;> simp [judge, judgeFrame, Judgement.valid, Judgement.failed]

theorem judge_fetch (sBit : Bool) (limit : Nat) (r : Reply) :
    judge .fetch sBit limit (.frame r) =
      if r.kind = .data then
        if r.payload.length ≤ limit then
          ⟨.success, .validReply r.noise false, some r.payload, none⟩
        else ⟨.tooLong, .validReply r.noise false, none, none⟩
      else if r.kind = .nak then ⟨.refused r.reason, .validReply r.noise false, none, none⟩
      else ⟨.failure .format, .failedAttempt, none, none⟩ := by
  obtain ⟨kind, bit, reason, payload, noise⟩ := r
  cases kind <;> rfl

theorem judge_probe (sBit : Bool) (limit : Nat) (r : Reply) :
    judge .probe sBit limit (.frame r) =
      if r.kind = .ack then ⟨.success, .successfulProbe r.noise, none, none⟩
      else ⟨.failure .format, .failedAttempt, none, none⟩ := by
  obtain ⟨kind, bit, reason, payload, noise⟩ := r
  cases kind <;> rfl

theorem judge_poll (sBit : Bool) (limit : Nat) (r : Reply) :
    judge .poll sBit limit (.frame r) =
      if r.kind = .nil then ⟨.success, .validReply r.noise false, none, none⟩
      else if r.kind = .report then
        ⟨.success, .validReply r.noise false, none, some (r.sBit, r.payload, r.noise)⟩
      else ⟨.failure .format, .failedAttempt, none, none⟩ := by
  obtain ⟨kind, bit, reason, payload, noise⟩ := r
  cases kind <;> rfl

end

/-! ### The replies of a station -/

section
variable (st : FieldStation) (will : StationWill)

theorem takeFrame_send {f : Reply} (kind : f.kind = .send) :
    st.takeFrame will f = st.takeSend will f.sBit f.payload := by
  simp only [FieldStation.takeFrame, kind]

theorem takeFrame_probe {f : Reply} (kind : f.kind = .probe) :
    st.takeFrame will f =
      ⟨{ st with sendBit := false, reportBit := false }, none,
        some (stationReply .ack false 0 [])⟩ := by
  simp only [FieldStation.takeFrame, kind]

variable {will} in
theorem takeFrame_fetch {f : Reply} (kind : f.kind = .fetch) (gives : will.fetchNak = none) :
    st.takeFrame will f = ⟨st, none, some (stationReply .data false 0 will.fetchData)⟩ := by
  simp only [FieldStation.takeFrame, kind, gives]

variable {will} in
theorem takeFrame_fetch_refused {f : Reply} (kind : f.kind = .fetch) {reason : Nat}
    (refuses : will.fetchNak = some reason) :
    st.takeFrame will f = ⟨st, none, some (stationReply .nak false reason [])⟩ := by
  simp only [FieldStation.takeFrame, kind, refuses]

theorem takeFrame_poll {f : Reply} (kind : f.kind = .poll) :
    st.takeFrame will f = st.takePoll f.sBit := by
  simp only [FieldStation.takeFrame, kind]

theorem takeSend_copy {sBit : Bool} (payload : List Byte) (copy : sBit ≠ st.sendBit) :
    st.takeSend will sBit payload = ⟨st, none, some (stationReply .ack sBit 0 [])⟩ :=
  if_neg copy

theorem takeSend_acts (payload : List Byte) (acts : will.sendNak = none) :
    st.takeSend will st.sendBit payload =
      ⟨{ st with sendBit := !st.sendBit }, some payload,
        some (stationReply .ack st.sendBit 0 [])⟩ := by
  refine (if_pos rfl).trans ?_
  rw [acts]

theorem takeSend_refuses (payload : List Byte) {reason : Nat} (refuses : will.sendNak = some reason) :
    st.takeSend will st.sendBit payload =
      ⟨st, none, some (stationReply .nak false reason [])⟩ := by
  refine (if_pos rfl).trans ?_
  rw [refuses]

theorem judge_ack (sBit : Bool) (limit : Nat) :
    judge .send sBit limit (.frame (stationReply .ack sBit 0 [])) =
      ⟨.success, .validReply false true, none, none⟩ := by
  rw [judge_send]
  exact if_pos ⟨rfl, rfl⟩

/-- What a station makes of a POLL: the report it still holds, the same at a second POLL (R174). -/
theorem takePoll_eq (sBit : Bool) :
    ∃ next : FieldStation,
      next = { st with
        reportBit := sBit
        reports := if sBit = st.reportBit then st.reports else st.reports.tail } ∧
      st.takePoll sBit = ⟨next, none, some (next.offers sBit)⟩ ∧
      next.takePoll sBit = ⟨next, none, some (next.offers sBit)⟩ := by
  obtain ⟨address, sendBit, reportBit, reports⟩ := st
  by_cases same : sBit = reportBit
  · subst same
    refine ⟨_, rfl, ?_, ?_⟩ <;> simp [FieldStation.takePoll]
  · refine ⟨_, rfl, ?_, ?_⟩ <;> simp [FieldStation.takePoll, same]

theorem judge_offers (limit : Nat) :
    judge .poll st.reportBit limit (.frame (st.offers st.reportBit)) =
      ⟨.success, .validReply false false, none,
        st.reports.head?.map (fun payload => (st.reportBit, payload, false))⟩ := by
  unfold FieldStation.offers
  cases st.reports <;> rfl

end

section

/-- Settles O42: the table's rows; then a station's reply to each kind of frame, judged by them. -/
theorem resultsAreJudged : Obligations.ResultsAreJudged := by
  refine ⟨fun sBit limit r => ⟨judge_send sBit limit r, judge_fetch sBit limit r,
      judge_probe sBit limit r, judge_poll sBit limit r, rfl, fun k _ => ⟨fun _ => rfl, rfl, rfl⟩⟩,
    fun st will f r limit kind reply => ?_, fun st will f sBit limit kind => ?_,
    fun st will f limit kind => ?_, fun st will f limit kind => ?_⟩
  · rw [takeFrame_send st will kind] at reply ⊢
    by_cases fresh : f.sBit = st.sendBit
    · rw [fresh] at reply ⊢
      cases nak : will.sendNak with
      | none =>
        rw [takeSend_acts st will _ nak] at reply ⊢
        cases reply
        exact ⟨_, true, judge_ack _ _, by simp, fun copy => absurd rfl copy, fun _ => ⟨rfl, rfl⟩⟩
      | some reason =>
        rw [takeSend_refuses st will _ nak] at reply ⊢
        cases reply
        exact ⟨_, false, rfl, by simp, fun copy => absurd rfl copy, fun _ => ⟨rfl, rfl⟩⟩
    · rw [takeSend_copy st will _ fresh] at reply ⊢
      cases reply
      have moved : st.sendBit = xor f.sBit true := by
        rw [Bool.xor_true]
        exact Bool.eq_not_of_ne (Ne.symm fresh)
      exact ⟨_, true, judge_ack _ _, by rw [← moved], fun _ => ⟨rfl, rfl⟩,
        fun same => absurd same fresh⟩
  · rw [takeFrame_probe st will kind]
    exact ⟨_, rfl, rfl, rfl⟩
  · cases nak : will.fetchNak with
    | none =>
      rw [takeFrame_fetch st kind nak]
      exact ⟨rfl, _, rfl, judge_fetch _ _ _⟩
    | some reason =>
      rw [takeFrame_fetch_refused st kind nak]
      exact ⟨rfl, _, rfl, rfl⟩
  · rw [takeFrame_poll st will kind, takeFrame_poll _ will kind]
    obtain ⟨next, eq, first, second⟩ := takePoll_eq st f.sBit
    rw [first]
    have bit : f.sBit = next.reportBit := by rw [eq]
    refine ⟨_, next.reports, by rw [eq], by rw [eq], rfl, by rw [second], ?_⟩
    rw [bit]
    exact judge_offers next limit

end

end Sys2Proof.Machine
